-- ==== Sys2Proof/Word.lean ====
section
/-! DEFINITION. The byte, and the one shape of a table of numbered records. -/

namespace Sys2Proof

/-- A byte, as it crosses the host link or the yard bus (R151, R134). -/
abbrev Byte := BitVec 8

/-- A run of bytes, first byte first. -/
abbrev Bytes := List Byte

/-- Numbered records: the number of each record with the record. The operations in Machine/Tab.lean keep
the numbers strictly rising. -/
structure Tab (α : Type) where
  rows : List (Nat × α)
  deriving DecidableEq, Repr

/-- The table that lists nothing. -/
def Tab.empty {α : Type} : Tab α := ⟨[]⟩

end Sys2Proof
end

