-- ==== Sys2Proof/Config.lean ====
section
/-! DEFINITION. What the spec leaves open as a value of the part, with no body (log entry 1), and the fixed
sizes the spec gives. -/

namespace Sys2Proof.Config

/-- R185, R190: IDENTIFY answers "the part's identity code"; the spec states no value for it.
UNVERIFIED: a free value, log entry 1. -/
opaque identityCode : BitVec 16

/-- R185, R190: IDENTIFY answers "its revision number"; the spec states no value for it.
UNVERIFIED: a free value, log entry 1. -/
opaque revision : BitVec 8

/-- R189 to R191: a response has a fixed layout, and some of its bytes describe a thing that is absent (the state of
an occupant when there is none, the fields of a session when there is none). Where R189, R191 and R192 give no absent
value for such a byte, it is this free value at the byte's place in the list of log entry 9. UNVERIFIED. -/
opaque unstatedByte : Nat → BitVec 8

/-- R3: vehicle indices run from 0 to 319. -/
def maxVehicles : Nat := 320
/-- R104: a plan holds 0 to 320 slots. -/
def maxSlots : Nat := 320
/-- R50: up to 48 lanes. -/
def maxLanes : Nat := 48
/-- R77: up to 96 charge points. -/
def maxPoints : Nat := 96
/-- R77: cabinets are numbered 1 to 12. -/
def maxCabinets : Nat := 12
/-- R26: up to 4 bays. -/
def maxBays : Nat := 4
/-- R39: up to 2 wash lanes. -/
def maxWashes : Nat := 2
/-- R53: up to 16 overflow spots. -/
def maxSpots : Nat := 16
/-- R20: a gate queue never holds more than 8. -/
def gateQueueMax : Nat := 8
/-- R40: a wash queue never holds more than 3. -/
def washQueueMax : Nat := 3
/-- R138: the inbound queue holds up to 16 reports. -/
def inboundMax : Nat := 16
/-- R141: the outbound queue holds up to 32 messages. -/
def outboundMax : Nat := 32
/-- 00, Time: a service day has 1440 minutes; 1440 is also the key "no departure" (R16). -/
def dayMinutes : Nat := 1440
/-- R184: the day number wraps at 65536. -/
def dayWrap : Nat := 65536

end Sys2Proof.Config
end

