-- ==== Sys2Proof/Syntax.lean ====
section
/-! DEFINITION. The commands: one constructor per row of spec/opcode_table.json, with what its sender gives. -/

namespace Sys2Proof

/-- R1, R192: body classes. -/
inductive BodyClass where
  | standard | midi | decker | artic
  deriving DecidableEq, Repr

/-- R1, R192: drives. -/
inductive Drive where
  | diesel | battery
  deriving DecidableEq, Repr

/-- R151: one character on HRX after its start bit: bits 0 to 7 the data, least significant first, bit 8 the parity
bit, bit 9 the stop bit. -/
structure RxChar where
  line : BitVec 10
  deriving DecidableEq, Repr

/-- What the host-set fields of a vehicle record hold after a double error in it (R18: its "remaining fields
as the record now holds them"); the fleet number and the tag are held by the maps (R4). -/
structure HeldFields where
  body         : BodyClass
  drive        : Drive
  capacity     : Nat
  soe          : Nat
  acceptance   : Nat
  washInterval : Nat
  lastWash     : Option Nat
  hold         : Option Nat
  passOver     : Nat
  deriving DecidableEq, Repr

/-- R170: an error the check bits can correct, or one they can only detect; for a double error in a vehicle
record, what its fields hold now (none: as they stood). -/
inductive ErrKind where
  | single
  | double (left : Option HeldFields)
  deriving DecidableEq, Repr

/-- An error in a stored record (R170): the record number and the kind. -/
structure MemError where
  record : Nat
  kind   : ErrKind
  deriving DecidableEq, Repr

/-- The commands. Host requests carry the frame's tag and body bytes (R190); a frame's code is the row's own.
Reports (BAY REPORT … SITE LIMIT) carry nothing: they are taken from the head of the inbound queue (R139). -/
inductive Instr where
  -- Fleet, codes 0x01 to 0x06
  | enrolVehicle (tag : Byte) (body : Bytes)
  | amendVehicle (tag : Byte) (body : Bytes)
  | retireVehicle (tag : Byte) (body : Bytes)
  | readVehicle (tag : Byte) (body : Bytes)
  | holdVehicle (tag : Byte) (body : Bytes)
  | setEnergy (tag : Byte) (body : Bytes)
  -- Yard, codes 0x20 to 0x28
  | readLane (tag : Byte) (body : Bytes)
  | closeLane (tag : Byte) (body : Bytes)
  | openLane (tag : Byte) (body : Bytes)
  | verifyLane (tag : Byte) (body : Bytes)
  | moveVehicle (tag : Byte) (body : Bytes)
  | placeVehicle (tag : Byte) (body : Bytes)
  | readStation (tag : Byte) (body : Bytes)
  | closeStation (tag : Byte) (body : Bytes)
  | openStation (tag : Byte) (body : Bytes)
  -- Energy, codes 0x40 to 0x44
  | setBudget (tag : Byte) (body : Bytes)
  | readEnergy (tag : Byte) (body : Bytes)
  | readSession (tag : Byte) (body : Bytes)
  | stopSession (tag : Byte) (body : Bytes)
  | resumeSession (tag : Byte) (body : Bytes)
  -- Roster, codes 0x60 to 0x6A
  | addSlot (tag : Byte) (body : Bytes)
  | amendSlot (tag : Byte) (body : Bytes)
  | cancelSlot (tag : Byte) (body : Bytes)
  | assign (tag : Byte) (body : Bytes)
  | unassign (tag : Byte) (body : Bytes)
  | readSlot (tag : Byte) (body : Bytes)
  | clearStaged (tag : Byte) (body : Bytes)
  | markStaged (tag : Byte) (body : Bytes)
  | commitPlan (tag : Byte) (body : Bytes)
  | callNow (tag : Byte) (body : Bytes)
  | listDue (tag : Byte) (body : Bytes)
  -- Part, codes 0x80 to 0x91
  | readClock (tag : Byte) (body : Bytes)
  | setClock (tag : Byte) (body : Bytes)
  | readSetting (tag : Byte) (body : Bytes)
  | writeSetting (tag : Byte) (body : Bytes)
  | storeSettings (tag : Byte) (body : Bytes)
  | readNotices (tag : Byte) (body : Bytes)
  | clearNotices (tag : Byte) (body : Bytes)
  | setNoticeEnables (tag : Byte) (body : Bytes)
  | readFault (tag : Byte) (body : Bytes)
  | releaseFault (tag : Byte) (body : Bytes)
  | beginCensus (tag : Byte) (body : Bytes)
  | finishCensus (tag : Byte) (body : Bytes)
  | enterConfigure (tag : Byte) (body : Bytes)
  | leaveConfigure (tag : Byte) (body : Bytes)
  | stopYard (tag : Byte) (body : Bytes)
  | restart (tag : Byte) (body : Bytes)
  | identify (tag : Byte) (body : Bytes)
  | readNodes (tag : Byte) (body : Bytes)
  -- Link events
  /-- A good frame whose code the sender gives (R157). -/
  | unknownRequest (code tag : Byte) (body : Bytes)
  /-- A good frame that completes, whatever its code (R155). -/
  | busyAnswer (code tag : Byte) (body : Bytes)
  /-- Characters arrive on HRX one after another without a gap (R152, R153). -/
  | frameDiscarded (chars : List RxChar)
  | frameGapTimeout
  | responseComplete
  -- Resets
  | powerOnReset
  | lineReset
  | startupComplete
  -- Gate queries: source node, gate number, tag identity (R193)
  | gateReadIn (source gate : Byte) (vtag : BitVec 32)
  | gateReadOut (source gate : Byte) (vtag : BitVec 32)
  | gateAnswerLost
  -- Bus reception: every byte of the message from destination to check (R134)
  | reportReceived (msg : Bytes)
  | messageRefused (msg : Bytes)
  -- Reports taken from the inbound queue (R139)
  | bayArrived
  | bayDone
  | bayClear
  | bayFault
  | bayRestored
  | washEntered
  | washDone
  | washClear
  | washFault
  | washRestored
  /-- `passFirst`: which of the two orders of R60 is taken, the attempt pass or the retry first. -/
  | laneReport (passFirst : Bool)
  | pointReport
  | siteLimit
  -- Sending
  | sendStart
  /-- The destination byte of the message that won (R137). -/
  | arbitrationLost (dest : Byte)
  | sendAcknowledged
  /-- Whether the destination acknowledged at least its destination byte (R144, R146). -/
  | sendNotAcknowledged (destAcked : Bool)
  | stuckBusTimeout
  -- Time
  /-- The errors that arise in stored records during the minute this event begins (log entry 8). -/
  | minuteEvent (wear : List MemError)
  | rollover
  | bayMovementExpiry (bay : Nat)
  | washMovementExpiry (lane : Nat)
  | laneMovementExpiry (vehicle : Nat)
  | budgetStale
  | callTimeout (slot : Nat)
  | graceExpiry (slot : Nat)
  | storeComplete
  | sparingCopyComplete
  | otherPartyTraffic
  | busSeenFree
  deriving DecidableEq, Repr

end Sys2Proof
end

