-- ==== Sys2Proof/WellFormed.lean ====
section
/-! DEFINITION. Which commands an outside party can give: the bounds of the formats (R190, R193) and of the
numbers (00, Positions; R170). A meaning is total and does not ask this. -/

namespace Sys2Proof

/-- R190: a request frame's length byte runs to 76, so a body has at most 74 bytes. -/
def bodyFits (body : Bytes) : Bool := decide (body.length ≤ 74)

/-- R134: five bytes and a payload of at most 12. -/
def messageFits (msg : Bytes) : Bool := decide (msg.length ≤ 17)

/-- R170, R171: the records of banks 0 to 35 are checked. -/
def MemError.inBanks (e : MemError) : Bool := decide (e.record < 1152)

/-- The commands an outside party can give. -/
def Instr.wellFormed : Instr → Bool
  | .enrolVehicle _ b | .amendVehicle _ b | .retireVehicle _ b | .readVehicle _ b | .holdVehicle _ b
  | .setEnergy _ b | .readLane _ b | .closeLane _ b | .openLane _ b | .verifyLane _ b | .moveVehicle _ b
  | .placeVehicle _ b | .readStation _ b | .closeStation _ b | .openStation _ b | .setBudget _ b
  | .readEnergy _ b | .readSession _ b | .stopSession _ b | .resumeSession _ b | .addSlot _ b
  | .amendSlot _ b | .cancelSlot _ b | .assign _ b | .unassign _ b | .readSlot _ b | .clearStaged _ b
  | .markStaged _ b | .commitPlan _ b | .callNow _ b | .listDue _ b | .readClock _ b | .setClock _ b
  | .readSetting _ b | .writeSetting _ b | .storeSettings _ b | .readNotices _ b | .clearNotices _ b
  | .setNoticeEnables _ b | .readFault _ b | .releaseFault _ b | .beginCensus _ b | .finishCensus _ b
  | .enterConfigure _ b | .leaveConfigure _ b | .stopYard _ b | .restart _ b | .identify _ b
  | .readNodes _ b | .unknownRequest _ _ b | .busyAnswer _ _ b => bodyFits b
  | .reportReceived m | .messageRefused m => messageFits m
  | .minuteEvent wear => wear.all MemError.inBanks
  | .bayMovementExpiry b => decide (1 ≤ b ∧ b ≤ Config.maxBays)
  | .washMovementExpiry l => decide (1 ≤ l ∧ l ≤ Config.maxWashes)
  | .laneMovementExpiry v => decide (v < Config.maxVehicles)
  | .callTimeout n | .graceExpiry n => decide (1 ≤ n ∧ n ≤ Config.maxSlots)
  | .frameDiscarded _ | .frameGapTimeout | .responseComplete | .powerOnReset | .lineReset
  | .startupComplete | .gateReadIn _ _ _ | .gateReadOut _ _ _ | .gateAnswerLost | .bayArrived | .bayDone
  | .bayClear | .bayFault | .bayRestored | .washEntered | .washDone | .washClear | .washFault
  | .washRestored | .laneReport _ | .pointReport | .siteLimit | .sendStart | .arbitrationLost _
  | .sendAcknowledged | .sendNotAcknowledged _ | .stuckBusTimeout | .rollover | .budgetStale
  | .storeComplete | .sparingCopyComplete | .otherPartyTraffic | .busSeenFree => true

end Sys2Proof
end

