-- ==== Sys2Proof/Machine/State.lean ====
section
/-! DEFINITION. The state of the part, block by block (00, "Inside the part"), as plain data, and the state
right after a power-on reset. -/

namespace Sys2Proof.Machine

/-- Why a command stops the part. The spec names no condition that stops it: every command has an effect in
every state, so there is no reason to name (safe). -/
inductive Fault : Type
  deriving DecidableEq, Repr

/-- Why the model refuses a command. -/
inductive Refusal where
  /-- Raised by an arm of `exec` whose command has no meaning yet; no arm of this model does (safe). -/
  | notModelled (mnemonic : String)
  deriving DecidableEq, Repr

/-! ### Mode and Clock Control -/

/-- R177: part modes. -/
inductive PartMode where
  | configure | census | running | safe
  deriving DecidableEq, Repr

/-- R184: the yard clock. While `isSet` is clear it holds no time (the other fields then read 0, log entry 4). -/
structure Clock where
  isSet   : Bool
  day     : Nat
  minute  : Nat
  seconds : Nat
  /-- The model's own: the rollover has been taken, the minute event of minute 0 not yet (log entry 5). -/
  minuteOwed : Bool
  deriving DecidableEq, Repr

/-- R145, R192: bus timeout setting. -/
inductive BusTimeout where
  | short | long
  deriving DecidableEq, Repr

/-- R151, R192: link rate. -/
inductive LinkRate where
  | r9600 | r19200 | r38400 | r115200
  deriving DecidableEq, Repr

/-- R50, R192: lane kinds. -/
inductive LaneKind where
  | flow | dead
  deriving DecidableEq, Repr

/-- R50, R192: berth classes. -/
inductive BerthClass where
  | standard | long
  deriving DecidableEq, Repr

/-- R26, R192: bay kinds. -/
inductive BayKind where
  | fuel | service
  deriving DecidableEq, Repr

/-- R190, R192: gate directions; `none` is code 0, a gate that is not configured. -/
inductive GateDir where
  | none | inward | outward | both
  deriving DecidableEq, Repr

/-- R186: the behavioural settings, in the order of its table. -/
structure Behaviour where
  moveTimeout   : Nat
  callLead      : Nat
  callTimeout   : Nat
  grace         : Nat
  margin        : Nat
  reserve       : Nat
  defaultReq    : Nat
  refPower      : Nat
  passLimit     : Nat
  refresh       : Nat
  fallback      : Nat
  contract      : Nat
  washSkip      : Nat
  corrThreshold : Nat
  busTimeout    : BusTimeout
  linkRate      : LinkRate
  deriving DecidableEq, Repr

/-- R50: a lane's geometry; `points` lists the positions that have a charge point. -/
structure LaneGeo where
  kind   : LaneKind
  depth  : Nat
  cls    : BerthClass
  node   : Nat
  index  : Nat
  points : Tab Nat
  deriving DecidableEq, Repr

/-- R77: a charge point's geometry. -/
structure PointGeo where
  cabinet : Nat
  lane    : Nat
  pos     : Nat
  rating  : Nat
  pmin    : Nat
  deriving DecidableEq, Repr

/-- R26: a bay's geometry. -/
structure BayGeo where
  kind : BayKind
  node : Nat
  deriving DecidableEq, Repr

/-- R186: a gate's direction and node address. -/
structure GateGeo where
  dir  : GateDir
  node : Nat
  deriving DecidableEq, Repr

/-- R186: the geometry keys. `cabinets` and `washes` give node addresses. -/
structure Geometry where
  numLanes    : Nat
  lanes       : Tab LaneGeo
  numPoints   : Nat
  points      : Tab PointGeo
  numCabinets : Nat
  cabinets    : Tab Nat
  numBays     : Nat
  bays        : Tab BayGeo
  numWashes   : Nat
  washes      : Tab Nat
  gates       : Tab GateGeo
  padCapacity : Nat
  numSpots    : Nat
  meter       : Nat
  display     : Nat
  gateAddr    : Nat
  serviceAddr : Nat
  energyAddr  : Nat
  deriving DecidableEq, Repr

/-- R186: the working settings. -/
structure Settings where
  beh : Behaviour
  geo : Geometry
  deriving DecidableEq, Repr

/-- R187: the settings store; `snapshot` is there while a store is in flight. -/
structure Store where
  valid    : Bool
  copy     : Settings
  snapshot : Option Settings
  deriving DecidableEq, Repr

/-! ### Fleet Table -/

/-- R15: vehicle states, in the order of its table (R192). -/
inductive VehState where
  | out | atGate | onPad | toBay | inBay | toWash | washing | toBerth | parked | inOverflow | stranded
  | departing | unknown
  deriving DecidableEq, Repr

/-- R15, R192: location kinds with their numbers. -/
inductive Loc where
  | absent
  | gateQueue (gate order : Nat)
  | pad (spot : Nat)
  | bay (bay : Nat)
  | washQueue (lane order : Nat)
  | wash (lane : Nat)
  | lane (lane pos : Nat)
  | overflow (spot : Nat)
  | apron
  deriving DecidableEq, Repr

/-- Section 1.1: the vehicle record (its damaged field is the Fault Unit's mark, R170). -/
structure Vehicle where
  fleet        : Nat
  tag          : Option Nat
  body         : BodyClass
  drive        : Drive
  capacity     : Nat
  soe          : Nat
  acceptance   : Nat
  washInterval : Nat
  lastWash     : Option Nat
  hold         : Option Nat
  passOver     : Nat
  state        : VehState
  loc          : Loc
  assignment   : Option Nat
  key          : Nat
  deriving DecidableEq, Repr

/-- R3, R4: the records by vehicle index, and the two lookup maps. -/
structure Fleet where
  vehicles : Tab Vehicle
  byFleet  : Tab Nat
  byTag    : Tab Nat
  deriving DecidableEq, Repr

/-! ### Service Line Controller -/

/-- R20, R22: a vehicle with its arrival time, in a gate queue or on the pad. -/
structure Waiting where
  vehicle : Nat
  arrival : Nat
  deriving DecidableEq, Repr

/-- R26: bay states. -/
inductive BayState where
  | free | awaiting | serving | finished | closed | faulted
  deriving DecidableEq, Repr

/-- R26: a bay record. -/
structure Bay where
  state    : BayState
  closing  : Bool
  occupant : Option Nat
  onward   : Bool
  deadline : Option Nat
  deriving DecidableEq, Repr

/-- R39: wash lane states. -/
inductive WashState where
  | idle | washing | faulted | closed
  deriving DecidableEq, Repr

/-- R40: a wash queue entry; `directed` is the directed-in mark with its deadline. -/
structure WashEntry where
  vehicle  : Nat
  heavy    : Bool
  directed : Option Nat
  deriving DecidableEq, Repr

/-- R39: a wash lane record. -/
structure Wash where
  state    : WashState
  closing  : Bool
  occupant : Option Nat
  queue    : List WashEntry
  deriving DecidableEq, Repr

/-- The Service Line Controller's state (R20, R23, R26, R39). -/
structure Service where
  gate1  : List Waiting
  gate2  : List Waiting
  pad    : Tab Waiting
  bays   : Tab Bay
  washes : Tab Wash
  deriving DecidableEq, Repr

/-! ### Lane Manager -/

/-- R52: the mark of an occupancy list entry with the fields that go with it. `ended` is set once the move that a
LEAVING entry of reason MOVE began is over (R64: its vehicle has been confirmed at its destination, or is lost); the
entry then waits for its berth alone. -/
inductive Mark where
  | settled
  | arriving (deadline : Nat)
  | leavingCall
  | leavingMove (deadline : Nat) (ended : Bool)
  | leavingExit
  deriving DecidableEq, Repr

/-- R52: an occupancy list entry. -/
structure Entry where
  vehicle : Nat
  pos     : Nat
  mark    : Mark
  deriving DecidableEq, Repr

/-- R50: lane states. -/
inductive LaneState where
  | opened | closed | unverified
  deriving DecidableEq, Repr

/-- R50: a lane's working fields; bit p − 1 of the image is position p. -/
structure Lane where
  state      : LaneState
  closing    : Bool
  entries    : List Entry
  inversions : Nat
  image      : BitVec 8
  deriving DecidableEq, Repr

/-- R53: an overflow spot that is not free. -/
inductive Spot where
  | reserved (vehicle deadline : Nat)
  | held (vehicle : Nat)
  deriving DecidableEq, Repr

/-- The Lane Manager's state (R50, R53, R60). A spot that `spots` does not list is free. -/
structure Yard where
  lanes    : Tab Lane
  spots    : Tab Spot
  stranded : List Nat
  deriving DecidableEq, Repr

/-! ### Energy Manager -/

/-- R77: the condition a cabinet reports. -/
inductive Cond where
  | idle | connected | active | faulted
  deriving DecidableEq, Repr

/-- R92, R192: grades. -/
inductive Grade where
  | onTrack | waiting | unreachable | complete
  deriving DecidableEq, Repr

/-- R83: a session record, with N, M, C and q as last formed (R102). -/
structure Session where
  vehicle     : Nat
  startSoe    : Nat
  base        : Nat
  delivered   : Nat
  requirement : Nat
  target      : Nat
  deadline    : Nat
  opened      : Nat
  grant       : Nat
  grade       : Option Grade
  capped      : Bool
  short       : Bool
  incompat    : Bool
  n           : Nat
  m           : Nat
  c           : Nat
  q           : Nat
  deriving DecidableEq, Repr

/-- R77: a point's working fields; `held = none` is unknown, `issued = none` is none. -/
structure Point where
  cond    : Option Cond
  stop    : Option Nat
  counter : Nat
  accept  : Option Nat
  held    : Option Nat
  issued  : Option Nat
  waiting : Option Grade
  session : Option Session
  deriving DecidableEq, Repr

/-- R96: where a fresh value came from. -/
inductive Source where
  | meter | host
  deriving DecidableEq, Repr

/-- R96, R98: the budget state. -/
structure Budget where
  fresh    : Bool
  last     : Option (Nat × Source)
  deadline : Option Nat
  deriving DecidableEq, Repr

/-- The Energy Manager's state (R77, R96). -/
structure Energy where
  points : Tab Point
  budget : Budget
  deriving DecidableEq, Repr

/-! ### Roster Unit -/

/-- R103: slot states. -/
inductive SlotState where
  | opened | assigned | called | gone | missed | cancelled
  deriving DecidableEq, Repr

/-- R103: the place a vehicle was called from. -/
inductive Place where
  | lane (lane pos : Nat)
  | spot (spot : Nat)
  deriving DecidableEq, Repr

/-- R103: a call record, with the node that was sent the CALL (R141). -/
structure Call where
  time     : Nat
  deadline : Nat
  place    : Place
  node     : Nat
  cleared  : Bool
  deriving DecidableEq, Repr

/-- R103: a slot; bit n of a set stands for code n (R189). `record` is its place in banks 10 to 29 (R170). -/
structure Slot where
  num         : Nat
  release     : Nat
  duty        : Nat
  bodies      : Byte
  drives      : Byte
  requirement : Nat
  gate        : Nat
  state       : SlotState
  assigned    : Option (Nat × Nat)
  last        : Option (Nat × Nat)
  substituted : Bool
  uncalled    : Bool
  unconfirmed : Bool
  call        : Option Call
  record      : Nat
  deriving DecidableEq, Repr

/-- R104: the two plans, each in plan order, and READY. -/
structure Roster where
  active : List Slot
  staged : List Slot
  ready  : Bool
  deriving DecidableEq, Repr

/-! ### Yard Bus Controller -/

/-- R136: interface states. -/
inductive Iface where
  | idle | watching | receiving | answering | sending
  deriving DecidableEq, Repr

/-- R133: what a destination address is to the part. -/
inductive Role where
  | gate | service | energy | broadcast
  deriving DecidableEq, Repr

/-- R192: destination kinds. -/
inductive DestKind where
  | none | pad | gateQueue | bay | washQueue | washHeavy | washStandard | lane | overflow | slot | out
  deriving DecidableEq, Repr

/-- R192: gate outcomes. -/
inductive GateOutcome where
  | pad | queue | holdOutside | inspect | duplicate | released | uncalled
  deriving DecidableEq, Repr

/-- R193: the answer to a GATE READ. -/
structure Answer where
  outcome : GateOutcome
  kind    : DestKind
  number  : Nat
  fleet   : Nat
  deriving DecidableEq, Repr

/-- R138: a received report. -/
structure InMsg where
  dest    : Byte
  source  : Byte
  kind    : Byte
  payload : Bytes
  deriving DecidableEq, Repr

/-- R193: the outbound kinds with their payloads. -/
inductive OutBody where
  | direct (fleet : Nat) (kind : DestKind) (number : Nat)
  | setpoint (point kw : Nat)
  | call (place : Place) (fleet gate slot : Nat)
  | cancelCall (place : Place) (slot : Nat)
  | poll
  | yardState (mode : PartMode)
  deriving DecidableEq, Repr

/-- R141: an outbound message as it was built, with its class. -/
structure OutMsg where
  dest   : Nat
  source : Nat
  urgent : Bool
  body   : OutBody
  deriving DecidableEq, Repr

/-- R146: liveness of a node. -/
inductive Liveness where
  | unheard | live | silent
  deriving DecidableEq, Repr

/-- R146: a node table entry. -/
structure Node where
  live  : Liveness
  heard : Bool
  poll  : Bool
  deriving DecidableEq, Repr

/-- The Yard Bus Controller's state. `urgent` and `normal` hold the unsent messages; with the one in flight
they are the outbound queue (R141). `receiving` is the destination byte that has been acknowledged, with what that
address was to the part then (R150). -/
structure Bus where
  iface     : Iface
  freeSeen  : Bool
  receiving : Option (Byte × List Role)
  answer    : Option (Byte × Answer)
  inbound   : List InMsg
  urgent    : List OutMsg
  normal    : List OutMsg
  inFlight  : Option OutMsg
  heldOver  : List OutMsg
  nodes     : Tab Node
  deriving DecidableEq, Repr

/-! ### Depot Computer Link -/

/-- R152: the receiver; in COLLECTING, the length and the characters stored, last first. -/
inductive Receiver where
  | hunting
  | length
  | collecting (len : Nat) (stored : Bytes)
  deriving DecidableEq, Repr

/-- R156, R192: statuses. -/
inductive Status where
  | done | busy | unknown | malformed | notFound | conflict | full | wrongState | outOfRange | safeMode
  | damaged
  deriving DecidableEq, Repr

/-- R156: a response. -/
structure Response where
  code   : Byte
  status : Status
  tag    : Byte
  body   : Bytes
  deriving DecidableEq, Repr

/-- R154, R155: what the link is doing: the response on its way out, and a BUSY answer that waits for it. -/
inductive LinkService where
  | idle
  | inService (response : Response) (busy : Option Response)
  | sendingBusy (answer : Response)
  deriving DecidableEq, Repr

/-- The Depot Computer Link's line state (R151 to R158). -/
structure Link where
  rx         : Receiver
  service    : LinkService
  rate       : LinkRate
  restarting : Bool
  deriving DecidableEq, Repr

/-- R159: the notice set; bit n is kind n. -/
structure Notices where
  pending : BitVec 16
  enables : BitVec 16
  urgents : BitVec 16
  deriving DecidableEq, Repr

/-- R159: notice kinds. -/
inductive NoticeKind where
  | arrivalHeld | unknownTag | blockCreated | moveExpired | sensorMismatch | stranded | sessionUnreachable
  | budgetFallback | callFailed | slotMissed | substitutionMade | uncalledExit | faultCaptured | storeDone
  | censusReady | linkError
  deriving DecidableEq, Repr

/-! ### Fault Unit -/

/-- R164: fault codes. -/
inductive FaultCode where
  | g1 | g2 | s1 | s2 | w1 | l1 | l2 | l3 | l4 | l5 | e1 | e2 | e3 | d1 | d2 | q1 | q2 | q3 | h1 | m1 | m2
  | m3 | m4 | m5 | c1 | x1
  deriving DecidableEq, Repr

/-- R165: a captured fault; its class is its code's. -/
structure Capture where
  code    : FaultCode
  subject : Nat
  time    : Option Nat
  deriving DecidableEq, Repr

/-- R175: a bank's correction count and worn mark. -/
structure Wear where
  count : Nat
  worn  : Bool
  deriving DecidableEq, Repr

/-- R168, R176: the spare. -/
inductive Spare where
  | free
  | copying (bank : Nat)
  | serving (bank : Nat)
  deriving DecidableEq, Repr

/-- The Fault Unit's state (R165 to R176). `errors` is what the check bits would show now, in record order. -/
structure FaultUnit where
  capture : Option Capture
  summary : BitVec 32
  count   : Nat
  marks   : List Nat
  errors  : List MemError
  wear    : Tab Wear
  spare   : Spare
  deriving DecidableEq, Repr

/-! ### The whole part -/

/-- The state of the part, and the queue of commands that wait. -/
structure State where
  mode     : PartMode
  startup  : Bool
  clock    : Clock
  settings : Settings
  store    : Store
  fleet    : Fleet
  service  : Service
  yard     : Yard
  energy   : Energy
  roster   : Roster
  bus      : Bus
  link     : Link
  notices  : Notices
  faults   : FaultUnit
  pending  : List Instr
  deriving DecidableEq, Repr

/-! ### Reset values -/

/-- R186: the defaults of the behavioural settings. -/
def Behaviour.default : Behaviour :=
  { moveTimeout := 10, callLead := 5, callTimeout := 8, grace := 15, margin := 20, reserve := 200,
    defaultReq := 1500, refPower := 60, passLimit := 4, refresh := 3, fallback := 200, contract := 1500,
    washSkip := 60, corrThreshold := 8, busTimeout := .long, linkRate := .r19200 }

/-- A lane item nothing has written: the lowest value of every field, node 0 (log entry 6). -/
def LaneGeo.blank : LaneGeo :=
  { kind := .flow, depth := 1, cls := .standard, node := 0, index := 0, points := .empty }
/-- A point item nothing has written (log entry 6). -/
def PointGeo.blank : PointGeo := { cabinet := 1, lane := 1, pos := 1, rating := 10, pmin := 1 }
/-- A bay item nothing has written (log entry 6). -/
def BayGeo.blank : BayGeo := { kind := .fuel, node := 0 }
/-- A gate item nothing has written: not configured (log entry 6). -/
def GateGeo.blank : GateGeo := { dir := .none, node := 0 }

/-- R186: the default geometry. -/
def Geometry.default : Geometry :=
  { numLanes := 1, lanes := ⟨[(1, { LaneGeo.blank with node := 4 })]⟩, numPoints := 0, points := .empty,
    numCabinets := 0, cabinets := .empty, numBays := 1, bays := ⟨[(1, { kind := .fuel, node := 5 })]⟩,
    numWashes := 1, washes := ⟨[(1, 6)]⟩,
    gates := ⟨[(1, { dir := .inward, node := 7 }), (3, { dir := .outward, node := 8 })]⟩,
    padCapacity := 8, numSpots := 0, meter := 9, display := 10, gateAddr := 1, serviceAddr := 2,
    energyAddr := 3 }

/-- R186: every setting at its default. -/
def Settings.default : Settings := { beh := .default, geo := .default }

/-- R26: a bay after reset. -/
def Bay.blank : Bay := { state := .free, closing := false, occupant := none, onward := false, deadline := none }
/-- R39: a wash lane after reset. -/
def Wash.blank : Wash := { state := .idle, closing := false, occupant := none, queue := [] }
/-- R50: a lane after reset. -/
def Lane.blank : Lane :=
  { state := .unverified, closing := false, entries := [], inversions := 0, image := 0 }
/-- R77: a point after reset. -/
def Point.blank : Point :=
  { cond := none, stop := none, counter := 0, accept := none, held := some 0, issued := some 0,
    waiting := none, session := none }
/-- R175: a bank after reset. -/
def Wear.blank : Wear := { count := 0, worn := false }
/-- R146: a node after reset. -/
def Node.blank : Node := { live := .unheard, heard := false, poll := false }
/-- R184: the clock after reset. -/
def Clock.blank : Clock := { isSet := false, day := 0, minute := 0, seconds := 0, minuteOwed := false }
/-- R159: the notice set after reset, priorities by its table. -/
def Notices.blank : Notices := { pending := 0#16, enables := 0xFFFF#16, urgents := 0x1BF8#16 }
/-- R19: an empty Fleet Table. -/
def Fleet.blank : Fleet := { vehicles := .empty, byFleet := .empty, byTag := .empty }
/-- R20, R23, R26, R39: the service line after reset. -/
def Service.blank : Service := { gate1 := [], gate2 := [], pad := .empty, bays := .empty, washes := .empty }
/-- R50, R53, R60: the yard after reset. -/
def Yard.blank : Yard := { lanes := .empty, spots := .empty, stranded := [] }
/-- R77, R98: the Energy Manager after reset. -/
def Energy.blank : Energy := { points := .empty, budget := { fresh := false, last := none, deadline := none } }
/-- R131: the roster after reset. -/
def Roster.blank : Roster := { active := [], staged := [], ready := false }
/-- R149: the bus controller after reset, but for its node table. -/
def Bus.blank : Bus :=
  { iface := .idle, freeSeen := false, receiving := none, answer := none, inbound := [], urgent := [],
    normal := [], inFlight := none, heldOver := [], nodes := .empty }
/-- R158: the link after reset, at the rate given. -/
def Link.blank (rate : LinkRate) : Link :=
  { rx := .hunting, service := .idle, rate := rate, restarting := false }
/-- R169, R175: the Fault Unit after a power-on reset, before start-up reports anything. -/
def FaultUnit.blank : FaultUnit :=
  { capture := none, summary := 0#32, count := 0, marks := [], errors := [], wear := .empty, spare := .free }

/-- The part right after a power-on reset with the settings store not valid (R178; that the store is not valid
then is the model's choice, log entry 3): every default, C1 in the empty capture with its notice, the YARD
STATE of the entry into CONFIGURE queued, start-up running (R188). -/
def State.reset : State :=
  { mode := .configure
    startup := true
    clock := .blank
    settings := .default
    store := { valid := false, copy := .default, snapshot := none }
    fleet := .blank
    service := .blank
    yard := .blank
    energy := .blank
    roster := .blank
    bus := { Bus.blank with
      urgent := [{ dest := 0, source := 2, urgent := true, body := .yardState .configure }]
      nodes := ⟨[(4, .blank), (5, .blank), (6, .blank), (7, .blank), (8, .blank), (9, .blank),
        (10, .blank)]⟩ }
    link := .blank .r19200
    notices := { Notices.blank with pending := 0x1000#16 }
    faults := { FaultUnit.blank with
      capture := some { code := .c1, subject := 0, time := none }, summary := 0x01000000#32 }
    pending := [] }

end Sys2Proof.Machine
end

