-- ==== Sys2Proof/Machine/Tab.lean ====
section
/-! DEFINITION. Tables of numbered records, and lists: reading, writing, and choosing the least by a key. -/

namespace Sys2Proof

/-- The record of that number. -/
def Tab.get? {α : Type} (t : Tab α) (k : Nat) : Option α := (t.rows.find? (fun r => r.1 == k)).map (·.2)

/-- The record of that number, or `d`. -/
def Tab.getD {α : Type} (t : Tab α) (k : Nat) (d : α) : α := (t.get? k).getD d

/-- Rows with number `k` holding `a`, the numbers still rising. -/
def Tab.put {α : Type} (k : Nat) (a : α) : List (Nat × α) → List (Nat × α)
  | [] => [(k, a)]
  | r :: rs => if k < r.1 then (k, a) :: r :: rs else if k = r.1 then (k, a) :: rs else r :: Tab.put k a rs

/-- The table with number `k` holding `a`. -/
def Tab.set {α : Type} (t : Tab α) (k : Nat) (a : α) : Tab α := ⟨Tab.put k a t.rows⟩

/-- The table without number `k`. -/
def Tab.del {α : Type} (t : Tab α) (k : Nat) : Tab α := ⟨t.rows.filter (fun r => r.1 != k)⟩

/-- The table with number `k` holding `a`, or without it. -/
def Tab.put? {α : Type} (t : Tab α) (k : Nat) (a : Option α) : Tab α :=
  match a with
  | some a => t.set k a
  | none => t.del k

/-- The numbers that have a record, rising. -/
def Tab.keys {α : Type} (t : Tab α) : List Nat := t.rows.map (·.1)

/-- The table with every record changed by `f`. -/
def Tab.mapRows {α β : Type} (t : Tab α) (f : Nat → α → β) : Tab β := ⟨t.rows.map (fun r => (r.1, f r.1 r.2))⟩

/-- The numbers rise strictly. -/
def Tab.wf {α : Type} (t : Tab α) : Bool := decide (t.rows.Pairwise (fun a b => a.1 < b.1))

/-- The numbers `lo` to `hi`, rising. -/
def upTo (lo hi : Nat) : List Nat := (List.range (hi + 1 - lo)).map (lo + ·)

/-- The number of elements that satisfy `p`. -/
def countOf {α : Type} (p : α → Bool) (l : List α) : Nat := (l.filter p).length

/-- Whether the list of numbers `a` comes before `b`: the first that differ decide. -/
def rankBefore : List Int → List Int → Bool
  | [], [] => false
  | [], _ :: _ => true
  | _ :: _, [] => false
  | a :: as, b :: bs => if a < b then true else if b < a then false else rankBefore as bs

/-- The first element of least rank. -/
def leastBy {α : Type} (rank : α → List Int) : List α → Option α
  | [] => none
  | a :: as =>
    match leastBy rank as with
    | none => some a
    | some b => if rankBefore (rank b) (rank a) then some b else some a

/-- `a` put before the first element of greater rank. -/
def insertBy {α : Type} (rank : α → List Int) (a : α) : List α → List α
  | [] => [a]
  | b :: bs => if rankBefore (rank a) (rank b) then a :: b :: bs else b :: insertBy rank a bs

/-- The list in rising rank; elements of equal rank keep their order. -/
def sortBy {α : Type} (rank : α → List Int) : List α → List α
  | l => l.foldl (fun acc a => insertBy rank a acc) []

/-- Rounding up in division by `d` (00, Numbers). -/
def ceilDiv (n d : Nat) : Nat := (n + d - 1) / d

end Sys2Proof
end

