-- ==== Sys2Proof/Machine/Ops.lean ====
section
/-! DEFINITION. Reading and writing the records, time, notices, fault reports and the outbound queue. -/

namespace Sys2Proof.Machine

/-! ### Settings -/

/-- R186: the behavioural settings in force. -/
def State.beh (s : State) : Behaviour := s.settings.beh
/-- R186: the geometry in force. -/
def State.geo (s : State) : Geometry := s.settings.geo

/-- R50: the geometry of a lane. -/
def Geometry.lane (g : Geometry) (l : Nat) : LaneGeo := g.lanes.getD l .blank
/-- R77: the geometry of a charge point. -/
def Geometry.point (g : Geometry) (p : Nat) : PointGeo := g.points.getD p .blank
/-- R26: the geometry of a bay. -/
def Geometry.bay (g : Geometry) (b : Nat) : BayGeo := g.bays.getD b .blank
/-- R186: a gate. -/
def Geometry.gate (g : Geometry) (n : Nat) : GateGeo := g.gates.getD n .blank
/-- R39: a wash lane's node. -/
def Geometry.washNode (g : Geometry) (l : Nat) : Nat := g.washes.getD l 0
/-- R77: a cabinet's node. -/
def Geometry.cabinetNode (g : Geometry) (c : Nat) : Nat := g.cabinets.getD c 0

/-- R50: the configured lanes, rising. -/
def State.laneNums (s : State) : List Nat := upTo 1 s.geo.numLanes
/-- R77: the configured points, rising. -/
def State.pointNums (s : State) : List Nat := upTo 1 s.geo.numPoints
/-- R26: the configured bays, rising. -/
def State.bayNums (s : State) : List Nat := upTo 1 s.geo.numBays
/-- R39: the configured wash lanes, rising. -/
def State.washNums (s : State) : List Nat := upTo 1 s.geo.numWashes
/-- R53: the configured overflow spots, rising. -/
def State.spotNums (s : State) : List Nat := upTo 1 s.geo.numSpots

/-! ### Time -/

/-- R184: yard time; absent while the clock is unset. -/
def Clock.time (c : Clock) : Option Nat :=
  if c.isSet then some (c.day * Config.dayMinutes + c.minute) else none
/-- R184: yard time, absent while the clock is unset. -/
def State.time (s : State) : Option Nat := s.clock.time
/-- R184: yard time where the clock is known to be set; 0 otherwise. -/
def State.now (s : State) : Nat := s.clock.time.getD 0
/-- R184: whether a deadline has been reached; none has while the clock is unset. -/
def State.reached (s : State) (deadline : Nat) : Bool :=
  match s.time with
  | some t => decide (deadline ≤ t)
  | none => false
/-- R28, R52: a movement deadline set now. -/
def State.moveDeadline (s : State) : Nat := s.now + s.beh.moveTimeout

/-! ### Records -/

/-- A record that stands for a vehicle index with none. -/
def Vehicle.blank : Vehicle :=
  { fleet := 0, tag := none, body := .standard, drive := .diesel, capacity := 0, soe := 0, acceptance := 0,
    washInterval := 0, lastWash := none, hold := none, passOver := 0, state := .out, loc := .absent,
    assignment := none, key := Config.dayMinutes }

/-- R3: the live record at a vehicle index. -/
def State.vehicle? (s : State) (v : Nat) : Option Vehicle := s.fleet.vehicles.get? v
/-- R3: the record at a vehicle index. -/
def State.vehicle (s : State) (v : Nat) : Vehicle := (s.vehicle? v).getD .blank
/-- R3: the record at a live index becomes `r`; a free index stays free. -/
def State.setVehicle (s : State) (v : Nat) (r : Vehicle) : State :=
  match s.vehicle? v with
  | some _ => { s with fleet := { s.fleet with vehicles := s.fleet.vehicles.set v r } }
  | none => s
/-- The record at an index changed by `f`. -/
def State.updVehicle (s : State) (v : Nat) (f : Vehicle → Vehicle) : State := s.setVehicle v (f (s.vehicle v))
/-- R15: state and location are written together. -/
def State.place (s : State) (v : Nat) (st : VehState) (loc : Loc) : State :=
  s.updVehicle v (fun r => { r with state := st, loc := loc })
/-- R4: the fleet number of a vehicle. -/
def State.fleetOf (s : State) (v : Nat) : Nat := (s.vehicle v).fleet
/-- R4: the index of a fleet number. -/
def State.byFleet (s : State) (n : Nat) : Option Nat := s.fleet.byFleet.get? n
/-- R4: the index of a tag identity; 0 is no identity. -/
def State.byTag (s : State) (t : Nat) : Option Nat := if t = 0 then none else s.fleet.byTag.get? t

/-- R50: a lane's working fields. -/
def State.lane (s : State) (l : Nat) : Lane := s.yard.lanes.getD l .blank
/-- A lane's working fields become `r`. -/
def State.setLane (s : State) (l : Nat) (r : Lane) : State :=
  { s with yard := { s.yard with lanes := s.yard.lanes.set l r } }
/-- A lane's working fields changed by `f`. -/
def State.updLane (s : State) (l : Nat) (f : Lane → Lane) : State := s.setLane l (f (s.lane l))
/-- A lane's occupancy list becomes `es`. -/
def State.setEntries (s : State) (l : Nat) (es : List Entry) : State :=
  s.updLane l (fun r => { r with entries := es })
/-- R53: a spot; none is a free one. -/
def State.spot (s : State) (n : Nat) : Option Spot := s.yard.spots.get? n
/-- A spot becomes `x`. -/
def State.setSpot (s : State) (n : Nat) (x : Option Spot) : State :=
  { s with yard := { s.yard with spots := s.yard.spots.put? n x } }
/-- R60: the stranded list becomes `l`. -/
def State.setStranded (s : State) (l : List Nat) : State := { s with yard := { s.yard with stranded := l } }

/-- R26: a bay record. -/
def State.bay (s : State) (b : Nat) : Bay := s.service.bays.getD b .blank
/-- A bay record becomes `r`. -/
def State.setBay (s : State) (b : Nat) (r : Bay) : State :=
  { s with service := { s.service with bays := s.service.bays.set b r } }
/-- A bay record changed by `f`. -/
def State.updBay (s : State) (b : Nat) (f : Bay → Bay) : State := s.setBay b (f (s.bay b))
/-- R39: a wash lane record. -/
def State.wash (s : State) (l : Nat) : Wash := s.service.washes.getD l .blank
/-- A wash lane record becomes `r`. -/
def State.setWash (s : State) (l : Nat) (r : Wash) : State :=
  { s with service := { s.service with washes := s.service.washes.set l r } }
/-- A wash lane record changed by `f`. -/
def State.updWash (s : State) (l : Nat) (f : Wash → Wash) : State := s.setWash l (f (s.wash l))
/-- R20: a gate queue. -/
def State.gateQueue (s : State) (g : Nat) : List Waiting := if g = 1 then s.service.gate1 else s.service.gate2
/-- A gate queue becomes `q`. -/
def State.setGateQueue (s : State) (g : Nat) (q : List Waiting) : State :=
  if g = 1 then { s with service := { s.service with gate1 := q } }
  else { s with service := { s.service with gate2 := q } }
/-- R23: the vehicle on a pad spot. -/
def State.pad (s : State) (p : Nat) : Option Waiting := s.service.pad.get? p
/-- A pad spot becomes `w`. -/
def State.setPad (s : State) (p : Nat) (w : Option Waiting) : State :=
  { s with service := { s.service with pad := s.service.pad.put? p w } }

/-- R77: a point's working fields. -/
def State.point (s : State) (p : Nat) : Point := s.energy.points.getD p .blank
/-- A point's working fields become `r`. -/
def State.setPoint (s : State) (p : Nat) (r : Point) : State :=
  { s with energy := { s.energy with points := s.energy.points.set p r } }
/-- A point's working fields changed by `f`. -/
def State.updPoint (s : State) (p : Nat) (f : Point → Point) : State := s.setPoint p (f (s.point p))
/-- R83: the open session at a point. -/
def State.session (s : State) (p : Nat) : Option Session := (s.point p).session
/-- An open session changed by `f`. -/
def State.updSession (s : State) (p : Nat) (f : Session → Session) : State :=
  s.updPoint p (fun r => { r with session := r.session.map f })
/-- R83: the point at which a session is open for a vehicle. -/
def State.sessionPoint (s : State) (v : Nat) : Option Nat :=
  s.pointNums.find? (fun p => (s.session p).any (fun x => x.vehicle == v))

/-- R104: the slot of that number in a plan. -/
def slotIn (plan : List Slot) (n : Nat) : Option Slot := plan.find? (fun x => x.num == n)
/-- R104: a plan with the slots of that number changed by `f`. -/
def updSlotIn (plan : List Slot) (n : Nat) (f : Slot → Slot) : List Slot :=
  plan.map (fun x => if x.num = n then f x else x)
/-- R104: an active slot. -/
def State.slot (s : State) (n : Nat) : Option Slot := slotIn s.roster.active n
/-- The active plan becomes `p`. -/
def State.setActive (s : State) (p : List Slot) : State := { s with roster := { s.roster with active := p } }
/-- The staged plan becomes `p`. -/
def State.setStaged (s : State) (p : List Slot) : State := { s with roster := { s.roster with staged := p } }
/-- An active slot changed by `f`. -/
def State.updSlot (s : State) (n : Nat) (f : Slot → Slot) : State :=
  s.setActive (updSlotIn s.roster.active n f)

/-! ### Notices (R159) -/

/-- R159: kind numbers. -/
def NoticeKind.num : NoticeKind → Nat
  | .arrivalHeld => 0 | .unknownTag => 1 | .blockCreated => 2 | .moveExpired => 3 | .sensorMismatch => 4
  | .stranded => 5 | .sessionUnreachable => 6 | .budgetFallback => 7 | .callFailed => 8 | .slotMissed => 9
  | .substitutionMade => 10 | .uncalledExit => 11 | .faultCaptured => 12 | .storeDone => 13
  | .censusReady => 14 | .linkError => 15

/-- R159: a block raises a notice. -/
def State.raise (s : State) (k : NoticeKind) : State :=
  { s with notices := { s.notices with pending := s.notices.pending ||| (1#16 <<< k.num) } }

/-! ### Fault reports (R164 to R166) -/

/-- R164, R190: a code's number, its row from 0. -/
def FaultCode.num : FaultCode → Nat
  | .g1 => 0 | .g2 => 1 | .s1 => 2 | .s2 => 3 | .w1 => 4 | .l1 => 5 | .l2 => 6 | .l3 => 7 | .l4 => 8 | .l5 => 9
  | .e1 => 10 | .e2 => 11 | .e3 => 12 | .d1 => 13 | .d2 => 14 | .q1 => 15 | .q2 => 16 | .q3 => 17 | .h1 => 18
  | .m1 => 19 | .m2 => 20 | .m3 => 21 | .m4 => 22 | .m5 => 23 | .c1 => 24 | .x1 => 25

/-- R164, R192: a code's class, ADVISORY 0 to FATAL 3. -/
def FaultCode.cls : FaultCode → Nat
  | .g1 | .g2 | .s2 | .l3 | .l5 | .e3 | .d2 | .q2 | .h1 | .m1 => 0
  | .l4 | .e2 | .d1 | .q1 | .q3 | .m3 | .m4 | .c1 => 1
  | .s1 | .w1 | .l1 | .l2 | .e1 | .m2 => 2
  | .m5 | .x1 => 3

/-- R164: FATAL. -/
def FaultCode.fatal (c : FaultCode) : Bool := c.cls == 3

/-- R165: whether a reported fault takes the capture. -/
def takesCapture (cap : Option Capture) (c : FaultCode) : Bool :=
  match cap with
  | none => true
  | some old => decide (old.code.cls < c.cls)

/-- R165, R166: a fault is reported. R167's entry to SAFE for a FATAL one is `reportFatal` (ModeOps). -/
def State.report (s : State) (c : FaultCode) (subject : Nat) : State :=
  let f := s.faults
  let takes := takesCapture f.capture c
  let f' := { f with
    capture := if takes then some { code := c, subject := subject, time := s.time } else f.capture
    summary := f.summary ||| (1#32 <<< c.num)
    count := if f.capture.isNone then f.count else min 255 (f.count + 1) }
  let s' := { s with faults := f' }
  if takes then s'.raise .faultCaptured else s'

/-! ### The outbound queue (R141 to R143, R147) -/

/-- R141: the messages that take a place. -/
def Bus.outCount (b : Bus) : Nat := b.urgent.length + b.normal.length + (if b.inFlight.isSome then 1 else 0)
/-- R141: all places are taken. -/
def Bus.outFull (b : Bus) : Bool := decide (Config.outboundMax ≤ b.outCount)

/-- R147: a POLL. -/
def OutMsg.isPoll (m : OutMsg) : Bool :=
  match m.body with
  | .poll => true
  | _ => false
/-- A SETPOINT for that point. -/
def OutMsg.isSetpoint (p : Nat) (m : OutMsg) : Bool :=
  match m.body with
  | .setpoint q _ => q == p
  | _ => false
/-- A CALL for that slot. -/
def OutMsg.isCall (n : Nat) (m : OutMsg) : Bool :=
  match m.body with
  | .call _ _ _ k => k == n
  | _ => false
/-- A YARD STATE. -/
def OutMsg.isYardState (m : OutMsg) : Bool :=
  match m.body with
  | .yardState _ => true
  | _ => false
/-- The point of a SETPOINT. -/
def OutMsg.setpoint? (m : OutMsg) : Option (Nat × Nat) :=
  match m.body with
  | .setpoint p kw => some (p, kw)
  | _ => none

/-- R142: what a new message removes from the unsent messages. -/
def replaces (new old : OutMsg) : Bool :=
  match new.body with
  | .setpoint p _ => old.isSetpoint p
  | .cancelCall _ n => old.isCall n
  | .yardState _ => old.isYardState
  | .direct _ _ _ | .call _ _ _ _ | .poll => false
/-- R142: what a new message removes from the held-over list. -/
def replacesHeld (new old : OutMsg) : Bool :=
  match new.body with
  | .setpoint p _ => old.isSetpoint p
  | .yardState _ => old.isYardState
  | .direct _ _ _ | .call _ _ _ _ | .poll | .cancelCall _ _ => false

/-- R95: an evicted, dropped or unacknowledged SETPOINT leaves its point's issued grant none. -/
def State.setpointLost (s : State) (m : OutMsg) : State :=
  match m.setpoint? with
  | some (p, _) => s.updPoint p (fun r => { r with issued := none })
  | none => s

/-- R143: a message is lost before sending: Q2, and R95 for a SETPOINT. -/
def State.loseMsg (s : State) (m : OutMsg) : State := (s.setpointLost m).report .q2 m.dest

/-- R143: held-over messages join the URGENT class while the queue has a free place. -/
def refillWith (b : Bus) : List OutMsg → Bus
  | [] => { b with heldOver := [] }
  | m :: ms => if b.outFull then { b with heldOver := m :: ms }
    else refillWith { b with urgent := b.urgent ++ [m] } ms
/-- R143: held-over messages join the URGENT class while the queue has a free place. -/
def Bus.refill (b : Bus) : Bus := refillWith b b.heldOver

/-- R141: a message joins the tail of its class. -/
def Bus.append (b : Bus) (m : OutMsg) : Bus :=
  if m.urgent then { b with urgent := b.urgent ++ [m] } else { b with normal := b.normal ++ [m] }

/-- R143: a message finds the queue full. The place of an evicted message goes to the arriving one, also while others are held
over (log entry 26). -/
def State.enqueueFull (s : State) (m : OutMsg) : State :=
  if m.urgent then
    match s.bus.normal.getLast? with
    | some young =>
      let s' := if young.isPoll then s else s.loseMsg young
      { s' with bus := { s'.bus with normal := s'.bus.normal.dropLast, urgent := s'.bus.urgent ++ [m] } }
    | none =>
      match m.body with
      | .cancelCall _ _ => s.loseMsg m
      | .setpoint _ _ | .yardState _ | .direct _ _ _ | .call _ _ _ _ | .poll =>
        { s with bus := { s.bus with heldOver := s.bus.heldOver ++ [m] } }
  else s.loseMsg m

/-- R142: the unsent messages that a new one replaces leave the queue. -/
def Bus.removeReplaced (b : Bus) (m : OutMsg) : Bus :=
  { b with
    urgent := b.urgent.filter (fun x => !replaces m x)
    normal := b.normal.filter (fun x => !replaces m x)
    heldOver := b.heldOver.filter (fun x => !replacesHeld m x) }

/-- R147: the lowest-addressed node with its poll-pending mark set. -/
def Bus.nextPoll (b : Bus) : Option Nat := (b.nodes.rows.find? (fun r => r.2.poll)).map (·.1)
/-- R147: a POLL is in the queue. -/
def Bus.hasPoll (b : Bus) : Bool := b.normal.any OutMsg.isPoll || b.inFlight.any OutMsg.isPoll
/-- R147: a POLL joins when the queue holds none, has a free place and nothing is held over, in every part mode while a mark
is set (log entry 74). -/
def State.pollFill (s : State) : State :=
  if s.bus.hasPoll || s.bus.outFull || !s.bus.heldOver.isEmpty then s
  else match s.bus.nextPoll with
    | some a => { s with bus := s.bus.append { dest := a, source := s.geo.serviceAddr, urgent := false, body := .poll } }
    | none => s

/-- R142, R143, R147: a new message is offered to the outbound queue. -/
def State.enqueue (s : State) (m : OutMsg) : State :=
  let s' := { s with bus := (s.bus.removeReplaced m).refill }
  if s'.bus.outFull then s'.enqueueFull m else State.pollFill { s' with bus := s'.bus.append m }

/-- R143, R147: a message has left the queue. -/
def State.placeFreed (s : State) : State := State.pollFill { s with bus := s.bus.refill }

/-! ### Messages the blocks queue (R141, R193) -/

/-- R141: a DIRECT. -/
def State.direct (s : State) (node v : Nat) (kind : DestKind) (number : Nat) : State :=
  s.enqueue { dest := node, source := s.geo.serviceAddr, urgent := false, body := .direct (s.fleetOf v) kind number }
/-- R141: a SETPOINT to the point's cabinet. -/
def State.setpoint (s : State) (p kw : Nat) (urgent : Bool) : State :=
  s.enqueue { dest := s.geo.cabinetNode (s.geo.point p).cabinet, source := s.geo.energyAddr, urgent := urgent,
              body := .setpoint p kw }
/-- R177: a YARD STATE with the mode in force. -/
def State.yardState (s : State) : State :=
  s.enqueue { dest := 0, source := s.geo.serviceAddr, urgent := true, body := .yardState s.mode }
/-- R109: the node a CALL for that place goes to. -/
def State.placeNode (s : State) (p : Place) : Nat :=
  match p with
  | .lane l _ => (s.geo.lane l).node
  | .spot _ => s.geo.display
/-- R109: a CALL. -/
def State.callMsg (s : State) (p : Place) (v gate slot : Nat) : State :=
  s.enqueue { dest := s.placeNode p, source := s.geo.serviceAddr, urgent := false,
              body := .call p (s.fleetOf v) gate slot }
/-- R110, R141: a CANCEL CALL to the node that was sent the CALL. -/
def State.cancelCallMsg (s : State) (node : Nat) (p : Place) (slot : Nat) : State :=
  s.enqueue { dest := node, source := s.geo.serviceAddr, urgent := true, body := .cancelCall p slot }

end Sys2Proof.Machine
end

