-- ==== Sys2Proof/Machine/Flags.lean ====
section
/-! DEFINITION. What the part forms from its records: the attention lines, a lane's flags and lookups, a point's
state, the damaged marks, the effective budget. -/

namespace Sys2Proof.Machine

/-! ### Attention lines -/

/-- R160: ATTN-U. -/
def Notices.attnU (n : Notices) : Bool := n.pending &&& n.enables &&& n.urgents != 0#16
/-- R160: ATTN-R. -/
def Notices.attnR (n : Notices) : Bool := n.pending &&& n.enables &&& ~~~n.urgents != 0#16

/-- R160, R188: ATTN-U; released during start-up. -/
def State.attnU (s : State) : Bool := !s.startup && s.notices.attnU
/-- R160, R188: ATTN-R; released during start-up. -/
def State.attnR (s : State) : Bool := !s.startup && s.notices.attnR

/-! ### Record numbers and damaged marks (R170) -/

/-- R170: banks 10 to 29. -/
def slotRecord (place : Nat) : Nat := 320 + place
/-- R170: banks 30 and 31. -/
def laneRecord (l : Nat) : Nat := 960 + (l - 1)
/-- R170: banks 32 to 34. -/
def sessionRecord (p : Nat) : Nat := 1024 + (p - 1)
/-- R170: bank 35. -/
def settingsRecord (place : Nat) : Nat := 1120 + place

/-- R170: a record's damaged mark. -/
def State.marked (s : State) (record : Nat) : Bool := s.faults.marks.contains record
/-- R1, R170: the damaged field of a vehicle record. -/
def State.damaged (s : State) (v : Nat) : Bool := s.marked v
/-- R170: a record's mark is set. -/
def State.mark (s : State) (record : Nat) : State :=
  if s.marked record then s
  else { s with faults := { s.faults with marks := s.faults.marks.filter (· < record) ++ record ::
                                            s.faults.marks.filter (record < ·) } }
/-- R170: a record's mark clears. -/
def State.unmark (s : State) (record : Nat) : State :=
  { s with faults := { s.faults with marks := s.faults.marks.filter (· != record) } }
/-- R171: a write leaves fresh check bits. -/
def State.freshen (s : State) (record : Nat) : State :=
  { s with faults := { s.faults with errors := s.faults.errors.filter (fun e => e.record != record) } }

/-! ### Lanes (R50, R52) -/

/-- R52: ARRIVING. -/
def Mark.isArriving : Mark → Bool
  | .arriving _ => true
  | .settled | .leavingCall | .leavingMove _ _ | .leavingExit => false
/-- R52: LEAVING, any reason. -/
def Mark.isLeaving : Mark → Bool
  | .leavingCall | .leavingMove _ _ | .leavingExit => true
  | .settled | .arriving _ => false
/-- R52: SETTLED. -/
def Mark.isSettled : Mark → Bool
  | .settled => true
  | .arriving _ | .leavingCall | .leavingMove _ _ | .leavingExit => false

/-- R52: the entry at a position. -/
def Lane.at? (r : Lane) (pos : Nat) : Option Entry := r.entries.find? (fun e => e.pos == pos)
/-- R52: an entry of that vehicle at that position. -/
def Entry.of (v pos : Nat) (e : Entry) : Bool := e.vehicle == v && e.pos == pos
/-- R52: the entry-in-flight flag. -/
def Lane.entryInFlight (r : Lane) : Bool := r.entries.any (fun e => e.mark.isArriving)
/-- R52: the exit-in-flight flag. -/
def Lane.exitInFlight (r : Lane) : Bool := r.entries.any (fun e => e.mark.isLeaving)
/-- R50: bit p − 1 of a set of positions. -/
def bitOf (set : BitVec 8) (pos : Nat) : Bool := set.getLsbD (pos - 1)
/-- R182: the set of positions in an occupancy list. -/
def positionsOf (es : List Entry) : BitVec 8 := es.foldl (fun acc e => acc ||| (1#8 <<< (e.pos - 1))) 0#8
/-- R61: the bits within a lane's depth. -/
def depthMask (depth : Nat) (set : BitVec 8) : BitVec 8 := set &&& BitVec.ofNat 8 (2 ^ depth - 1)

/-- R52: the lane whose occupancy list has an entry of that vehicle that `p` accepts. -/
def State.laneWith (s : State) (v : Nat) (p : Entry → Bool) : Option Nat :=
  s.laneNums.find? (fun l => (s.lane l).entries.any (fun e => e.vehicle == v && p e))

/-! ### Points (R78) -/

/-- R78, R192: point states. -/
inductive PointState where
  | offline | idle | connected | active | faulted | stopped
  deriving DecidableEq, Repr

/-- R78: a point's state. -/
def Point.state (r : Point) : PointState :=
  match r.cond with
  | none => .offline
  | some .faulted => .faulted
  | some .idle => if r.stop.isSome then .stopped else .idle
  | some .connected => if r.stop.isSome then .stopped else .connected
  | some .active => if r.stop.isSome then .stopped else .active

/-- R93: a point whose state keeps a session from opening for want of a working outlet. -/
def Point.dead (r : Point) : Bool := r.state == .offline || r.state == .faulted
/-- R81: a point with the plug in and no stop mark. -/
def Point.plugged (r : Point) : Bool := r.state == .connected || r.state == .active

/-- R77: the configured point bound to a lane position. -/
def State.pointAt (s : State) (lane pos : Nat) : Option Nat :=
  s.pointNums.find? (fun p => (s.geo.point p).lane == lane && (s.geo.point p).pos == pos)
/-- R81: the entry at a point's bound position. -/
def State.boundEntry (s : State) (p : Nat) : Option Entry :=
  (s.lane (s.geo.point p).lane).at? (s.geo.point p).pos
/-- R81, R100: the vehicle PARKED with a SETTLED entry at a point's bound position. -/
def State.parkedAt (s : State) (p : Nat) : Option Nat :=
  match s.boundEntry p with
  | some e => if e.mark.isSettled && (s.vehicle e.vehicle).state == .parked then some e.vehicle else none
  | none => none

/-! ### The budget (R98) -/

/-- R98: the effective budget. -/
def effectiveBudget (fresh : Bool) (last : Option Nat) (fallback : Nat) (safe : Bool) : Nat :=
  match last with
  | none => fallback
  | some v => if fresh && !safe then v else min v fallback
/-- R98: the effective budget in force. -/
def State.effective (s : State) : Nat :=
  effectiveBudget s.energy.budget.fresh (s.energy.budget.last.map (·.1)) s.beh.fallback (s.mode == .safe)

/-- R81: the modes in which sessions open. -/
def PartMode.charges : PartMode → Bool
  | .running | .safe => true
  | .configure | .census => false

end Sys2Proof.Machine
end

