-- ==== Sys2Proof/Machine/Keys.lean ====
section
/-! DEFINITION. The figures the blocks form for a vehicle from its record, its slot and the settings: requirement,
target, need, charge minutes, turn key, session deadline. -/

namespace Sys2Proof.Machine

/-- R35, R83: the requirement of a vehicle's assigned active slot, or the default requirement. -/
def State.requirementOf (s : State) (v : Nat) : Nat :=
  match (s.vehicle v).assignment with
  | some n => ((s.slot n).map (·.requirement)).getD s.beh.defaultReq
  | none => s.beh.defaultReq

/-- R35, R83: min(capacity, requirement + reserve). -/
def State.targetOf (s : State) (v : Nat) : Nat := min (s.vehicle v).capacity (s.requirementOf v + s.beh.reserve)

/-- R35, R57, R88: max(0, target − SoE). -/
def State.needOf (s : State) (v : Nat) : Nat := s.targetOf v - (s.vehicle v).soe

/-- R35: the estimated charge minutes. -/
def State.chargeMinutes (s : State) (v : Nat) : Nat :=
  match (s.vehicle v).drive with
  | .diesel => 0
  | .battery => ceilDiv (6 * s.needOf v) s.beh.refPower

/-- R35: the turn key. -/
def State.turnKey (s : State) (v : Nat) : Nat := (s.vehicle v).key - s.chargeMinutes v

/-- R83: a session's deadline. -/
def State.deadlineOf (s : State) (v : Nat) : Nat := (s.vehicle v).key - s.beh.margin

/-- R16: the departure key an assignment gives. -/
def State.keyOf (s : State) (assignment : Option Nat) : Nat :=
  match assignment with
  | some n => ((s.slot n).map (·.release)).getD Config.dayMinutes
  | none => Config.dayMinutes

/-- R6, R57, R107: BATTERY. -/
def Vehicle.battery (r : Vehicle) : Bool := r.drive == .battery

/-- R50: whether a body class fits a berth class. -/
def fitsBerth (b : BodyClass) (c : BerthClass) : Bool := !(b == .artic && c == .standard)

/-- R192: a body class's code. -/
def bodyCode : BodyClass → Nat
  | .standard => 0 | .midi => 1 | .decker => 2 | .artic => 3
/-- R192: a drive's code. -/
def driveCode : Drive → Nat
  | .diesel => 0 | .battery => 1

/-- R107, R189: whether a slot's sets accept a body class and a drive. -/
def accepts (bodies drives : Byte) (b : BodyClass) (d : Drive) : Bool :=
  bodies.getLsbD (bodyCode b) && drives.getLsbD (driveCode d)
/-- R107: whether a slot accepts a vehicle's record. -/
def Slot.accepts (x : Slot) (r : Vehicle) : Bool := Machine.accepts x.bodies x.drives r.body r.drive

end Sys2Proof.Machine
end

