-- ==== Sys2Proof/Machine/Formats.lean ====
section
/-! DEFINITION. The bytes that cross the two ports (chapter 12): codes, characters, frames, messages, records as read. -/

namespace Sys2Proof

/-! ### Characters on the host link (R151) -/

/-- R151: a character's value, its first data bit the least significant. -/
def RxChar.value (c : RxChar) : Byte := c.line.extractLsb' 0 8
/-- Whether the ones among the lowest `n` bits are odd in number. -/
def oddOnes {w : Nat} (x : BitVec w) (n : Nat) : Bool := (List.range n).foldl (fun acc i => acc ^^ x.getLsbD i) false
/-- R151, R153: the parity bit makes the ones even in number, and the stop bit is 1. -/
def RxChar.good (c : RxChar) : Bool := !oddOnes c.line 9 && c.line.getLsbD 9
/-- R151: a byte as a character, in the order its bits are sent from bit 0 on: start bit 0, the data least significant
bit first, the even parity bit, stop bit 1. -/
def charOf (b : Byte) : BitVec 11 := 1#1 ++ BitVec.ofBool (oddOnes b 8) ++ b ++ 0#1
/-- R151: a byte as it arrives on HRX from a sender that keeps R151, after its start bit. -/
def RxChar.ofByte (b : Byte) : RxChar := { line := (charOf b).extractLsb' 1 10 }

end Sys2Proof

namespace Sys2Proof.Machine

/-! ### Fields (R189) -/

/-- One byte. -/
def be8 (n : Nat) : Bytes := [BitVec.ofNat 8 n]
/-- R189: two bytes, most significant first. -/
def be16 (n : Nat) : Bytes := [BitVec.ofNat 8 (n / 256), BitVec.ofNat 8 n]
/-- R189: four bytes, most significant first. -/
def be32 (n : Nat) : Bytes := be16 (n / 65536) ++ be16 n
/-- R189: a 2-byte figure, 0xFFFF when absent. -/
def be16? (n : Option Nat) : Bytes := be16 (n.getD 0xFFFF)
/-- R189: a yard time, 0xFFFFFFFF when absent. -/
def time? (n : Option Nat) : Bytes := be32 (n.getD 0xFFFFFFFF)
/-- A flag, 0 or 1. -/
def flag (b : Bool) : Bytes := be8 (if b then 1 else 0)

/-! ### Codes (R192) -/

/-- R192: vehicle states, by row of R15. -/
def stateCode : VehState → Nat
  | .out => 0 | .atGate => 1 | .onPad => 2 | .toBay => 3 | .inBay => 4 | .toWash => 5 | .washing => 6
  | .toBerth => 7 | .parked => 8 | .inOverflow => 9 | .stranded => 10 | .departing => 11 | .unknown => 12
/-- R190, R192: a location: kind, first number, second number. -/
def locBytes : Loc → Bytes
  | .absent => be8 0 ++ be8 0 ++ be8 0
  | .gateQueue g n => be8 1 ++ be8 g ++ be8 n
  | .pad p => be8 2 ++ be8 p ++ be8 0
  | .bay b => be8 3 ++ be8 b ++ be8 0
  | .washQueue l n => be8 4 ++ be8 l ++ be8 n
  | .wash l => be8 5 ++ be8 l ++ be8 0
  | .lane l p => be8 6 ++ be8 l ++ be8 p
  | .overflow p => be8 7 ++ be8 p ++ be8 0
  | .apron => be8 8 ++ be8 0 ++ be8 0
/-- R192: slot states. -/
def slotStateCode : SlotState → Nat
  | .opened => 0 | .assigned => 1 | .called => 2 | .gone => 3 | .missed => 4 | .cancelled => 5
/-- R107, R192: eligibility reasons; `none` is an eligible vehicle. -/
inductive Reason where
  | absent | blocked | held | damaged | unsuited | lowEnergy
  deriving DecidableEq, Repr
/-- R192: eligibility reasons. -/
def reasonCode : Option Reason → Nat
  | none => 0 | some .absent => 1 | some .blocked => 2 | some .held => 3 | some .damaged => 4
  | some .unsuited => 5 | some .lowEnergy => 6
/-- R192: lane kinds. -/
def laneKindCode : LaneKind → Nat
  | .flow => 0 | .dead => 1
/-- R192: berth classes. -/
def berthCode : BerthClass → Nat
  | .standard => 0 | .long => 1
/-- R192: lane states. -/
def laneStateCode : LaneState → Nat
  | .opened => 0 | .closed => 1 | .unverified => 2
/-- R192: entry marks. -/
def markCode : Mark → Nat
  | .settled => 0 | .arriving _ => 1 | .leavingCall | .leavingMove _ _ | .leavingExit => 2
/-- R192: leaving reasons. -/
def leavingCode : Mark → Nat
  | .settled | .arriving _ => 0 | .leavingCall => 1 | .leavingMove _ _ => 2 | .leavingExit => 3
/-- R71: an entry's deadline where it has one. -/
def markDeadline : Mark → Option Nat
  | .arriving d | .leavingMove d _ => some d
  | .settled | .leavingCall | .leavingExit => none
/-- R192: bay kinds. -/
def bayKindCode : BayKind → Nat
  | .fuel => 0 | .service => 1
/-- R192: bay states. -/
def bayStateCode : BayState → Nat
  | .free => 0 | .awaiting => 1 | .serving => 2 | .finished => 3 | .closed => 4 | .faulted => 5
/-- R192: wash lane states. -/
def washStateCode : WashState → Nat
  | .idle => 0 | .washing => 1 | .faulted => 2 | .closed => 3
/-- R192: point states. -/
def pointStateCode : PointState → Nat
  | .offline => 0 | .idle => 1 | .connected => 2 | .active => 3 | .faulted => 4 | .stopped => 5
/-- R192: reported conditions, 0 for none. -/
def condCode : Option Cond → Nat
  | none => 0 | some .idle => 1 | some .connected => 2 | some .active => 3 | some .faulted => 4
/-- R79, R192: the condition a code names; 0, the code for none, names none that a report can carry (log entry 71). -/
def condOf : Nat → Option Cond
  | 1 => some .idle | 2 => some .connected | 3 => some .active | 4 => some .faulted | _ => none
/-- R192: grades, 0xFF for absent. -/
def gradeCode : Option Grade → Nat
  | none => 0xFF | some .onTrack => 0 | some .waiting => 1 | some .unreachable => 2 | some .complete => 3
/-- R192: sources, 0xFF for none. -/
def sourceCode : Option Source → Nat
  | none => 0xFF | some .meter => 0 | some .host => 1
/-- R192: liveness. -/
def livenessCode : Liveness → Nat
  | .unheard => 0 | .live => 1 | .silent => 2
/-- R192: part modes. -/
def modeCode : PartMode → Nat
  | .configure => 0 | .census => 1 | .running => 2 | .safe => 3
/-- R192: gate directions. -/
def gateDirCode : GateDir → Nat
  | .none => 0 | .inward => 1 | .outward => 2 | .both => 3
/-- R192: link rates. -/
def rateCode : LinkRate → Nat
  | .r9600 => 0 | .r19200 => 1 | .r38400 => 2 | .r115200 => 3
/-- R192: bus timeouts. -/
def timeoutCode : BusTimeout → Nat
  | .short => 0 | .long => 1
/-- R192: gate outcomes. -/
def outcomeCode : GateOutcome → Nat
  | .pad => 1 | .queue => 2 | .holdOutside => 3 | .inspect => 4 | .duplicate => 5 | .released => 6 | .uncalled => 7
/-- R192: destination kinds. -/
def destCode : DestKind → Nat
  | .none => 0 | .pad => 1 | .gateQueue => 2 | .bay => 3 | .washQueue => 4 | .washHeavy => 5
  | .washStandard => 6 | .lane => 7 | .overflow => 8 | .slot => 9 | .out => 10
/-- R156: statuses. -/
def statusCode : Status → Nat
  | .done => 0 | .busy => 1 | .unknown => 2 | .malformed => 3 | .notFound => 4 | .conflict => 5 | .full => 6
  | .wrongState => 7 | .outOfRange => 8 | .safeMode => 9 | .damaged => 10
/-- `n` response bytes that describe an absent thing and have no stated value: free values, from `first` on in the
list of log entry 9. -/
def unstated (first n : Nat) : Bytes := (List.range n).map (fun i => Config.unstatedByte (first + i))
/-- R192: the spare's state and its bank; a free spare's bank has no stated value (log entry 9). -/
def spareBytes : Spare → Bytes
  | .free => be8 0 ++ unstated 28 1
  | .copying b => be8 1 ++ be8 b
  | .serving b => be8 2 ++ be8 b
/-- R192: the body class a code names. -/
def bodyOf : Nat → Option BodyClass
  | 0 => some .standard | 1 => some .midi | 2 => some .decker | 3 => some .artic | _ => none
/-- R192: the drive a code names. -/
def driveOf : Nat → Option Drive
  | 0 => some .diesel | 1 => some .battery | _ => none

/-! ### Host link frames (R151 to R156, R190) -/

/-- R189: the CRC after one more bit. -/
def crcStep (crc : BitVec 16) : BitVec 16 :=
  if crc.getLsbD 15 then (crc <<< 1) ^^^ 0x1021#16 else crc <<< 1
/-- R189: the CRC after one more byte. -/
def crcByte (crc : BitVec 16) (b : Byte) : BitVec 16 :=
  (List.range 8).foldl (fun c _ => crcStep c) (crc ^^^ (b.zeroExtend 16 <<< 8))
/-- R189: the CRC of a run of bytes. -/
def crc16 (bs : Bytes) : BitVec 16 := bs.foldl crcByte 0xFFFF#16
/-- R190: bytes with the start byte before and the CRC after. -/
def framed (bs : Bytes) : Bytes := 0xA5#8 :: bs ++ be16 (crc16 bs).toNat
/-- R190: a request frame. -/
def requestFrame (code tag : Byte) (body : Bytes) : Bytes :=
  framed (BitVec.ofNat 8 (body.length + 2) :: code :: tag :: body)
/-- R156, R190: a response frame. -/
def Response.frame (r : Response) : Bytes :=
  framed (BitVec.ofNat 8 (r.body.length + 3) :: r.code :: BitVec.ofNat 8 (statusCode r.status) :: r.tag :: r.body)

/-- R151: a response as it goes out on HTX, character by character. -/
def Response.chars (r : Response) : List (BitVec 11) := r.frame.map charOf
/-- R155, R156: a BUSY answer: status BUSY, an empty body. -/
def busyTo (code tag : Byte) : Response := { code := code, status := .busy, tag := tag, body := [] }

/-! ### Yard bus messages (R134, R193) -/

/-- R134, R193: the two's complement of the modulo-256 sum of the bytes. -/
def checkByte (bs : Bytes) : Byte := -(bs.foldl (· + ·) 0#8)
/-- R193: the outbound kind codes. -/
def OutBody.kindCode : OutBody → Nat
  | .direct _ _ _ => 0x21 | .setpoint _ _ => 0x22 | .call _ _ _ _ => 0x23 | .cancelCall _ _ => 0x24
  | .poll => 0x25 | .yardState _ => 0x26
/-- R193: a place kind and its number. -/
def placeBytes : Place → Bytes
  | .lane l _ => be8 7 ++ be8 l
  | .spot n => be8 8 ++ be8 n
/-- R193: the outbound payloads. -/
def OutBody.payload : OutBody → Bytes
  | .direct fleet kind number => be16 fleet ++ be8 (destCode kind) ++ be8 number
  | .setpoint p kw => be8 p ++ be16 kw
  | .call place fleet gate slot => placeBytes place ++ be16 fleet ++ be8 gate ++ be16 slot
  | .cancelCall place slot => placeBytes place ++ be16 slot
  | .poll => []
  | .yardState m => be8 (modeCode m)
/-- 12.5: a message as it is sent. -/
def OutMsg.wire (m : OutMsg) : Bytes :=
  let bs := be8 m.dest ++ be8 m.source ++ be8 m.body.kindCode ++ be8 m.body.payload.length ++ m.body.payload
  bs ++ [checkByte bs]
/-- R193: the answer to a GATE READ as it is sent. -/
def Answer.wire (a : Answer) : Bytes :=
  let bs := be8 (outcomeCode a.outcome) ++ be8 (destCode a.kind) ++ be16 a.number ++ be16 a.fleet
  bs ++ [checkByte bs]

/-! ### Records as read (R190, R191) -/

/-- R191: the last wash day; absent, it has no stated value (log entry 9). -/
def washDayBytes (x : Option Nat) : Bytes :=
  match x with
  | some d => be16 d
  | none => unstated 29 2
/-- R191: the vehicle record. 12.3 prints it in two columns side by side: the left one is sent whole, then the right one (log
entry 76). -/
def vehicleBytes (index : Nat) (r : Vehicle) (damaged : Bool) : Bytes :=
  be16 index ++ be16 r.fleet ++ be32 (r.tag.getD 0) ++ be8 (bodyCode r.body) ++ be8 (driveCode r.drive) ++
  be16 r.capacity ++ be16 r.soe ++ be16 r.acceptance ++ flag r.lastWash.isSome ++ be8 (r.hold.getD 0) ++
  be8 r.passOver ++ be8 (stateCode r.state) ++ locBytes r.loc ++ be16 (r.assignment.getD 0) ++ be16 r.key ++
  flag damaged ++ be8 r.washInterval ++ washDayBytes r.lastWash
/-- R190: the DAMAGED body of READ VEHICLE. -/
def damagedVehicleBytes (index fleet : Nat) (r : Vehicle) : Bytes :=
  be16 index ++ be16 fleet ++ be8 (stateCode r.state) ++ locBytes r.loc
/-- R191: a vehicle named by index and fleet number, or none. -/
def namedBytes (x : Option (Nat × Nat)) : Bytes :=
  match x with
  | some (i, f) => be16 i ++ be16 f
  | none => be16 0xFFFF ++ be16 0
/-- R191: a call record. For a vehicle called from an overflow spot R191 gives the position byte no value: it is 0 (log entry
49). -/
def callBytes (c : Option Call) : Bytes :=
  match c with
  | none => be8 0 ++ be32 0 ++ be32 0 ++ be8 0 ++ be8 0 ++ be8 0 ++ be8 0
  | some x =>
    let pos := match x.place with
      | .lane _ p => p
      | .spot _ => 0
    be8 1 ++ be32 x.time ++ be32 x.deadline ++ placeBytes x.place ++ be8 pos ++ flag x.cleared
/-- R191: the flags of a slot. -/
def slotFlags (x : Slot) : Nat :=
  (if x.substituted then 1 else 0) + (if x.uncalled then 2 else 0) + (if x.unconfirmed then 4 else 0)
/-- R191: the slot. -/
def slotBytes (plan : Nat) (x : Slot) (ready : Bool) : Bytes :=
  be8 plan ++ be16 x.num ++ be16 x.release ++ be16 x.duty ++ [x.bodies, x.drives] ++ be16 x.requirement ++
  be8 x.gate ++ be8 (slotStateCode x.state) ++ namedBytes x.assigned ++ namedBytes x.last ++ be8 (slotFlags x) ++
  callBytes x.call ++ flag ready

end Sys2Proof.Machine
end

