-- ==== Sys2Proof/Machine/Operands.lean ====
section
/-! DEFINITION. Reading a body or a payload: fields, selectors, sets, the value block, plan codes, setting keys. -/

namespace Sys2Proof.Machine

/-! ### Fields (R189) -/

/-- The byte at an offset. -/
def at8 (b : Bytes) (i : Nat) : Nat := ((b[i]?).map BitVec.toNat).getD 0
/-- R189: two bytes, most significant first. -/
def at16 (b : Bytes) (i : Nat) : Nat := at8 b i * 256 + at8 b (i + 1)
/-- R189: four bytes, most significant first. -/
def at32 (b : Bytes) (i : Nat) : Nat := at16 b i * 65536 + at16 b (i + 2)
/-- Bit n of a byte at an offset. -/
def bitAt (x n : Nat) : Bool := x.testBit n
/-- R189: 0 means absent. -/
def nonzero (n : Nat) : Option Nat := if n = 0 then none else some n
/-- R189: a set of body classes: not empty, no bit beyond the four codes. -/
def bodySetOk (x : Nat) : Bool := decide (0 < x ∧ x < 16)
/-- R189: a set of drives: not empty, no bit beyond the two codes. -/
def driveSetOk (x : Nat) : Bool := decide (0 < x ∧ x < 4)

/-! ### Replies (R156) -/

/-- R156: a status and a body. -/
structure Reply where
  status : Status
  body   : Bytes
  deriving DecidableEq, Repr

/-- A status with an empty body. -/
def refuse (x : Status) : Reply := { status := x, body := [] }
/-- DONE with a body. -/
def done (body : Bytes) : Reply := { status := .done, body := body }

/-! ### Selectors (R5, R190) -/

/-- R5, R190: the live vehicle index a selector names, or the refusal. An index and a fleet number stand in the low bytes of
the four; what nonzero bytes above them do is not stated, and the model judges the whole value (log entry 65). -/
def State.select (s : State) (b : Bytes) : Except Status Nat :=
  let kind := at8 b 0
  let value := at32 b 1
  if kind = 0 then
    if Config.maxVehicles ≤ value then .error .outOfRange
    else if (s.vehicle? value).isSome then .ok value else .error .notFound
  else if kind = 1 then
    match s.byFleet value with
    | some v => .ok v
    | none => .error .notFound
  else if kind = 2 then
    if value = 0 then .error .malformed
    else match s.byTag value with
      | some v => .ok v
      | none => .error .notFound
  else .error .malformed

/-! ### The ENROL value block (R6, R11, R190) -/

/-- R6, R11: the host-set values a body carries. -/
structure Values where
  fleet        : Nat
  tag          : Option Nat
  body         : BodyClass
  drive        : Drive
  capacity     : Nat
  soe          : Nat
  acceptance   : Nat
  washInterval : Nat
  lastWash     : Option Nat
  deriving DecidableEq, Repr

/-- R190: the value block at an offset; a code that names nothing is judged by `valuesOk`. -/
def valuesAt (b : Bytes) (i : Nat) : Values :=
  { fleet := at16 b i, tag := nonzero (at32 b (i + 2)), body := (bodyOf (at8 b (i + 6))).getD .standard,
    drive := (driveOf (at8 b (i + 7))).getD .diesel, capacity := at16 b (i + 8), soe := at16 b (i + 10),
    acceptance := at16 b (i + 12), washInterval := at8 b (i + 14),
    lastWash := if at8 b (i + 15) = 1 then some (at16 b (i + 16)) else none }

/-- R6, R11, R190: the fields of the value block that the mask names are well formed: fleet number not 0, codes
defined, the last-wash present mark 0 or 1 (bits in the order of R11). -/
def valuesOk (b : Bytes) (i mask : Nat) : Bool :=
  (!bitAt mask 0 || at16 b i != 0) && (!bitAt mask 2 || (bodyOf (at8 b (i + 6))).isSome) &&
  (!bitAt mask 3 || (driveOf (at8 b (i + 7))).isSome) && (!bitAt mask 8 || decide (at8 b (i + 15) < 2))

/-- R1, R6: a battery's capacity and acceptance limit in range. -/
def batteryOk (d : Drive) (capacity acceptance : Nat) : Bool :=
  match d with
  | .diesel => true
  | .battery => decide (100 ≤ capacity ∧ capacity ≤ 9999 ∧ 10 ≤ acceptance ∧ acceptance ≤ 600)

/-- R1, R2: the fields of a record brought into their ranges. -/
def Vehicle.clamped (r : Vehicle) : Vehicle :=
  let cap := if r.battery then r.capacity else 0
  { r with
    capacity := cap
    soe := if r.battery then min r.soe cap else 0
    acceptance := if r.battery then r.acceptance else 0
    washInterval := min r.washInterval 60
    passOver := min r.passOver 15 }

/-! ### Codes the host sends -/

/-- R120, R192: a plan code. -/
def planCodeOk (n : Nat) : Bool := decide (n < 2)
/-- R33, R190: a station kind: 0 a bay, 1 a wash lane. -/
def stationKindOk (n : Nat) : Bool := decide (n < 2)

end Sys2Proof.Machine
end

