-- ==== Sys2Proof/Machine/Energy.lean ====
section
/-! DEFINITION. The Energy Manager: the allocation, sessions, grades, setpoints and the budget (chapter 5). -/

namespace Sys2Proof.Machine

/-! ### The two passes (R89 to R91) -/

/-- R88 to R91: a session in the passes: its point, deadline, minimum run power, C and q, and what it is given. -/
structure Share where
  point    : Nat
  deadline : Nat
  pmin     : Nat
  c        : Nat
  q        : Nat
  grant    : Nat
  short    : Bool
  deriving DecidableEq, Repr

/-- R90: what pass 1 grants of a remaining budget. -/
def passOneGrant (rem : Nat) (x : Share) : Nat := if x.q ≤ rem then x.q else if x.pmin ≤ rem then rem else 0
/-- R90: pass 1, with what it leaves over. -/
def passOne : Nat → List Share → Nat × List Share
  | rem, [] => (rem, [])
  | rem, x :: xs =>
    let g := passOneGrant rem x
    let r := passOne (rem - g) xs
    (r.1, { x with grant := g, short := decide (rem < x.q) } :: r.2)
/-- R91: what pass 2 adds of a remaining budget. -/
def passTwoGain (rem : Nat) (x : Share) : Nat :=
  if 0 < x.grant then min (x.c - x.grant) rem else if x.pmin ≤ rem then min x.c rem else 0
/-- R91: pass 2. -/
def passTwo : Nat → List Share → List Share
  | _, [] => []
  | rem, x :: xs =>
    let g := passTwoGain rem x
    { x with grant := x.grant + g } :: passTwo (rem - g) xs
/-- R89: by deadline, then by point number. -/
def Share.rank (x : Share) : List Int := [x.deadline, x.point]
/-- R89 to R91: a budget shared. -/
def shareBudget (budget : Nat) (xs : List Share) : List Share :=
  let r := passOne budget (sortBy Share.rank xs)
  passTwo r.1 r.2

/-- R88: minutes to the deadline. -/
def minutesTo (deadline now : Nat) : Nat := if deadline ≤ now then 1 else deadline - now
/-- R89: the raw rate. -/
def rawRate (n m : Nat) : Nat := ceilDiv (6 * n) m
/-- R89: the need share. -/
def needShare (n m c pmin : Nat) : Nat := min c (max pmin (rawRate n m))
/-- R92: the energy at the deadline with a power held. -/
def projection (soe power m capacity : Nat) : Nat := min capacity (soe + power * m / 6)
/-- R92: the grade. -/
def gradeOf (p best requirement : Nat) : Grade :=
  if requirement ≤ p then .onTrack else if requirement ≤ best then .waiting else .unreachable

/-! ### Setpoints (R94) -/

/-- R94: a SETPOINT for a changed grant. -/
def State.issue (s : State) (p grant : Nat) : State :=
  let r := s.point p
  if r.issued = some grant then s
  else
    let urgent := match r.held with
      | none => true
      | some h => decide (grant < h)
    (s.setPoint p { r with issued := some grant }).setpoint p grant urgent
/-- R94, R99: a SETPOINT of 0, URGENT. -/
def State.issueZero (s : State) (p : Nat) : State :=
  (s.updPoint p (fun r => { r with issued := some 0 })).setpoint p 0 true
/-- R94: a point with a session is issued its grant. -/
def State.issueGrant (s : State) (p : Nat) : State :=
  match s.session p with
  | some x => s.issue p x.grant
  | none => s
/-- R94: a point with no session, not OFFLINE, whose issued grant is none. -/
def Point.owesZero (r : Point) : Bool := r.session.isNone && r.cond.isSome && r.issued.isNone
/-- R94: such a point is ordered to 0. -/
def State.issueLostZero (s : State) (p : Nat) : State := if (s.point p).owesZero then s.issueZero p else s
/-- R94: after a recomputation. -/
def State.issueSetpoints (s : State) : State :=
  let s' := s.pointNums.foldl State.issueGrant s
  s'.pointNums.foldl State.issueLostZero s'

/-! ### The allocation (R86 to R92) -/

/-- R88: C for a session at a point. -/
def State.sessionC (s : State) (p : Nat) (x : Session) : Nat :=
  let a := (s.vehicle x.vehicle).acceptance
  let acc := match (s.point p).accept with
    | some r => min a r
    | none => a
  min (s.geo.point p).rating acc

/-- R86: a session whose SoE is at or above its target is COMPLETE. -/
def State.sessionComplete (s : State) (x : Session) : Bool := decide (x.target ≤ (s.vehicle x.vehicle).soe)

/-- R86: a COMPLETE session's fields. -/
def Session.completed (x : Session) : Session :=
  { x with grade := some .complete, capped := false, short := false, incompat := false, grant := 0 }

/-- R86: the session at a point becomes or stays COMPLETE. -/
def State.completeAt (s : State) (p : Nat) : State :=
  match s.session p with
  | some x => if s.sessionComplete x then s.updSession p Session.completed else s
  | none => s

/-- R88: N, M and C are formed; INCOMPATIBLE is judged, with E3 when it becomes so, and its grant is 0. -/
def State.formInputs (s : State) (p : Nat) : State :=
  match s.session p with
  | none => s
  | some x =>
    if s.sessionComplete x then s
    else
      let c := s.sessionC p x
      let inc := decide (c < (s.geo.point p).pmin)
      let x' := { x with
        n := x.target - (s.vehicle x.vehicle).soe
        m := minutesTo x.deadline s.clock.minute
        c := c
        incompat := inc
        grant := if inc then 0 else x.grant }
      let s' := s.updSession p (fun _ => x')
      if inc && !x.incompat then s'.report .e3 p else s'

/-- R89: the session at a point as it goes into the passes. -/
def State.shareAt (s : State) (p : Nat) : Option Share :=
  match s.session p with
  | none => none
  | some x =>
    if s.sessionComplete x || x.incompat then none
    else some { point := p, deadline := x.deadline, pmin := (s.geo.point p).pmin, c := x.c,
                q := needShare x.n x.m x.c (s.geo.point p).pmin, grant := 0, short := false }

/-- R89 to R91: the outcome of the passes is written into its session. -/
def State.writeShare (s : State) (x : Share) : State :=
  s.updSession x.point (fun r => { r with
    grant := x.grant
    q := x.q
    short := x.short
    capped := decide (x.c < rawRate r.n r.m) })

/-- R92: the session at a point is graded; SESSION-UNREACHABLE when it becomes so. -/
def State.gradeAt (s : State) (p : Nat) : State :=
  match s.session p with
  | none => s
  | some x =>
    if s.sessionComplete x then s
    else
      let v := s.vehicle x.vehicle
      let g :=
        if x.incompat then gradeOf v.soe v.soe x.requirement
        else gradeOf (projection v.soe x.grant x.m v.capacity) (projection v.soe x.c x.m v.capacity) x.requirement
      let s' := s.updSession p (fun r => { r with grade := some g })
      if g = .unreachable ∧ x.grade ≠ some .unreachable then s'.raise .sessionUnreachable else s'

/-- R87: the allocation is recomputed and setpoints are issued. -/
def State.recompute (s : State) : State :=
  let s1 := s.pointNums.foldl State.completeAt s
  let s2 := s1.pointNums.foldl State.formInputs s1
  let shares := shareBudget s2.effective (s2.pointNums.filterMap s2.shareAt)
  let s3 := shares.foldl State.writeShare s2
  (s3.pointNums.foldl State.gradeAt s3).issueSetpoints

/-- R98: the allocation is recomputed when the effective budget comes out changed. -/
def State.reformBudget (before after : State) : State :=
  if after.effective = before.effective then after else after.recompute

/-! ### Sessions (R81 to R86, R99) -/

/-- R99: the session record at a point is freed, with its SETPOINT of 0; the allocation is still to run. -/
def State.dropSession (s : State) (p : Nat) : State :=
  match s.session p with
  | none => s
  | some _ =>
    let s' := (s.updPoint p (fun r => { r with session := none })).unmark (sessionRecord p)
    let s'' := s'.freshen (sessionRecord p)
    if (s''.point p).cond.isNone then s'' else s''.issueZero p

/-- R99: an open session ends. -/
def State.endSession (s : State) (p : Nat) : State :=
  match s.session p with
  | none => s
  | some _ => (s.dropSession p).recompute

/-- R83: a session record as it opens. -/
def State.newSession (s : State) (p v : Nat) : Session :=
  { vehicle := v, startSoe := (s.vehicle v).soe, base := (s.point p).counter, delivered := 0,
    requirement := s.requirementOf v, target := s.targetOf v, deadline := s.deadlineOf v, opened := s.now,
    grant := 0, grade := none, capped := false, short := false, incompat := false, n := 0, m := 0, c := 0,
    q := 0 }

/-- R81: the vehicle for which a session can open at a point. -/
def State.canOpen (s : State) (p : Nat) : Option Nat :=
  if s.mode.charges && s.clock.isSet && (s.point p).plugged && (s.point p).session.isNone then
    match s.parkedAt p with
    | some v => if (s.vehicle v).battery && !s.damaged v then some v else none
    | none => none
  else none

/-- R81: a stop mark is dropped when the position holds no vehicle, or another. Only the indices are compared: a mark left
for a vehicle that was called and then retired stands for a new record at its index (R3; log entry 69). -/
def State.dropStaleStop (s : State) (p : Nat) : State :=
  if (s.point p).stop.isSome && (s.boundEntry p).map (·.vehicle) != (s.point p).stop then
    s.updPoint p (fun r => { r with stop := none })
  else s

/-- R81, R83: the opening check at a point. -/
def State.openingCheck (s : State) (p : Nat) : State :=
  let s' := s.dropStaleStop p
  match s'.canOpen p with
  | some v =>
    State.recompute ((s'.freshen (sessionRecord p)).updPoint p (fun r =>
      { r with session := some (s'.newSession p v), waiting := none }))
  | none => s'

/-- R93: the waiting grade of the vehicle at a point is set. For a vehicle that is damaged, or is no BATTERY vehicle any more,
the grade that stands is kept (log entry 67). -/
def State.setWaiting (s : State) (p : Nat) : State :=
  if (s.point p).dead && (s.point p).session.isNone then
    match s.parkedAt p with
    | some v =>
      if (s.vehicle v).battery && !s.damaged v then
        let g := if 0 < s.needOf v then Grade.unreachable else Grade.complete
        let s' := s.updPoint p (fun r => { r with waiting := some g })
        if g = .unreachable ∧ (s.point p).waiting ≠ some .unreachable then s'.raise .sessionUnreachable else s'
      else s
    | none => s
  else s

/-- R93: the waiting grade of a vehicle is set again after its figures changed. -/
def State.regrade (s : State) (v : Nat) : State :=
  match s.pointNums.find? (fun p => s.parkedAt p == some v) with
  | some p => s.setWaiting p
  | none => s

/-- R81, R93: the Energy Manager is told that a vehicle stands PARKED at a position. -/
def State.tellArrival (s : State) (lane pos : Nat) : State :=
  match s.pointAt lane pos with
  | some p => (s.openingCheck p).setWaiting p
  | none => s

/-- R93, R99, R100: the Energy Manager is told of a vehicle's departure from a position. -/
def State.tellDeparture (s : State) (v lane pos : Nat) : State :=
  match s.pointAt lane pos with
  | none => s
  | some p =>
    let s' := s.updPoint p (fun r =>
      { r with waiting := none, stop := if r.stop = some v then none else r.stop })
    if (s'.session p).any (fun x => x.vehicle == v) then s'.endSession p else s'

/-- R84: the session at a point takes its requirement, target and deadline again. -/
def State.retargetAt (s : State) (p : Nat) : State :=
  match s.session p with
  | none => s
  | some x => s.updSession p (fun r => { r with
      requirement := s.requirementOf x.vehicle, target := s.targetOf x.vehicle, deadline := s.deadlineOf x.vehicle })

/-- R84, R87: the targets and deadlines of the open sessions, which trigger the allocation when one changes. -/
def State.sessionAims (s : State) : List (Option (Nat × Nat)) :=
  s.pointNums.map (fun p => (s.session p).map (fun x => (x.target, x.deadline)))

/-- R84: the open sessions are re-targeted. -/
def State.retargetAll (s : State) : State :=
  let s' := s.pointNums.foldl State.retargetAt s
  if s'.sessionAims = s.sessionAims then s' else s'.recompute

/-- R85: delivered energy and SoE follow the counter. -/
def State.account (s : State) (p : Nat) : State :=
  match s.session p with
  | none => s
  | some x =>
    let d := min 9999 ((s.point p).counter - x.base)
    let soe := min (s.vehicle x.vehicle).capacity (x.startSoe + d)
    let s' := (s.updSession p (fun r => { r with delivered := d })).updVehicle x.vehicle (fun r =>
      { r with soe := soe })
    if s'.sessionComplete x && x.grade != some .complete then s'.recompute else s'

/-- R80: a point goes OFFLINE with its cabinet; the allocation is still to run. -/
def State.offlineAt (s : State) (p : Nat) : State :=
  let s' := s.updPoint p (fun r =>
    { r with cond := none, counter := 0, accept := none, held := none, issued := none })
  (s'.dropSession p).setWaiting p

/-- R80: every point of a silent cabinet goes OFFLINE. -/
def State.cabinetOffline (s : State) (node : Nat) : State :=
  let ps := s.pointNums.filter (fun p => s.geo.cabinetNode (s.geo.point p).cabinet == node)
  let ended := ps.any (fun p => (s.session p).isSome)
  let s' := ps.foldl State.offlineAt s
  if ended then s'.recompute else s'

/-- R179: every open session ends, then one allocation. -/
def State.endAllSessions (s : State) : State :=
  if s.pointNums.any (fun p => (s.session p).isSome) then (s.pointNums.foldl State.dropSession s).recompute else s

/-! ### The budget (R96 to R98) -/

/-- R96: a refresh. -/
def State.refreshBudget (s : State) (kw : Nat) (src : Source) : State :=
  State.reformBudget s { s with energy := { s.energy with budget :=
    { fresh := true
      last := some (min kw s.beh.contract, src)
      deadline := s.time.map (· + s.beh.refresh) } } }

/-- R97: a FRESH budget whose refresh deadline has been reached becomes STALE. -/
def State.staleBudget (s : State) : State :=
  if s.energy.budget.fresh && s.energy.budget.deadline.any s.reached then
    State.reformBudget s (State.raise
      (State.report { s with energy := { s.energy with budget := { s.energy.budget with fresh := false } } } .e2 0)
      .budgetFallback)
  else s

/-- R96: the first minute event after the clock is set sets a FRESH budget's unset deadline. -/
def State.startDeadline (s : State) : State :=
  if s.energy.budget.fresh && s.energy.budget.deadline.isNone && s.clock.isSet then
    { s with energy := { s.energy with budget := { s.energy.budget with deadline := some (s.now + s.beh.refresh) } } }
  else s

end Sys2Proof.Machine
end

