-- ==== Sys2Proof/Machine/Lanes.lean ====
section
/-! DEFINITION. The Lane Manager: occupancy lists, overflow spots, candidates and the choice of a berth, calls at the
lanes, expiries and abandoned movements (chapter 4). -/

namespace Sys2Proof.Machine

/-! ### Occupancy lists (R52, R68) -/

/-- R68: neighbouring pairs where the vehicle nearer the exit has the greater key. -/
def inversionsOf (key : Nat → Nat) : List Entry → Nat
  | [] => 0
  | [_] => 0
  | a :: b :: es => (if key b.vehicle < key a.vehicle then 1 else 0) + inversionsOf key (b :: es)
/-- R68: a lane's count is recomputed; a rise from 0 raises BLOCK-CREATED. -/
def State.recount (s : State) (l : Nat) : State :=
  let r := s.lane l
  let n := inversionsOf (fun v => (s.vehicle v).key) r.entries
  let s' := s.setLane l { r with inversions := n }
  if r.inversions = 0 ∧ 0 < n then s'.raise .blockCreated else s'
/-- R17, R68: every lane whose count comes out changed is recounted. -/
def State.recountChanged (s : State) (l : Nat) : State :=
  let r := s.lane l
  if inversionsOf (fun v => (s.vehicle v).key) r.entries = r.inversions then s else s.recount l
/-- R17: the lanes are recounted on the keys as they stand. -/
def State.recountAll (s : State) : State := s.laneNums.foldl State.recountChanged s

/-- R51: an entry put in its place by position. -/
def insertEntry (e : Entry) : List Entry → List Entry
  | [] => [e]
  | x :: xs => if e.pos < x.pos then e :: x :: xs else x :: insertEntry e xs
/-- R52: an entry is added. -/
def State.addEntry (s : State) (l : Nat) (e : Entry) : State :=
  (s.setEntries l (insertEntry e (s.lane l).entries)).recount l
/-- R52: the entries of a lane that `p` accepts are removed. -/
def State.dropEntries (s : State) (l : Nat) (p : Entry → Bool) : State :=
  (s.setEntries l ((s.lane l).entries.filter (fun e => !p e))).recount l
/-- R52: a vehicle's entry at a position is removed. -/
def State.removeEntry (s : State) (l v pos : Nat) : State := s.dropEntries l (Entry.of v pos)
/-- R52: the mark of a vehicle's entry at a position becomes `m`. An entry that the vehicle has elsewhere in the list
(log entry 58) keeps its own. -/
def State.setMark (s : State) (l v pos : Nat) (m : Mark) : State :=
  s.setEntries l ((s.lane l).entries.map (fun e => if e.vehicle = v ∧ e.pos = pos then { e with mark := m } else e))

/-- R50, R65: a lane becomes UNVERIFIED; a CLOSED one sets closing pending. -/
def State.unverify (s : State) (l : Nat) : State :=
  s.updLane l (fun r => { r with state := .unverified, closing := r.closing || r.state == .closed })
/-- R50: a lane becomes CLOSED, and closing pending clears. -/
def State.shut (s : State) (l : Nat) : State :=
  s.updLane l (fun r => { r with state := .closed, closing := false })
/-- R61, R64, R82: a lane disagrees with the yard. -/
def State.mismatch (s : State) (l : Nat) : State :=
  ((s.unverify l).report .l2 l).raise .sensorMismatch

/-! ### Overflow spots (R53) -/

/-- R53: the vehicle a spot is reserved for or held by. -/
def Spot.vehicle : Spot → Nat
  | .reserved v _ => v
  | .held v => v
/-- R53: a spot is held. -/
def Spot.isHeld : Spot → Bool
  | .held _ => true
  | .reserved _ _ => false
/-- R53: the spots of a vehicle that `p` accepts. -/
def State.spotsOf (s : State) (v : Nat) (p : Spot → Bool) : List Nat :=
  s.spotNums.filter (fun n => (s.spot n).any (fun x => x.vehicle == v && p x))
/-- R53: those spots become free. -/
def State.freeSpots (s : State) (ns : List Nat) : State := ns.foldl (fun t n => t.setSpot n none) s
/-- R53: every spot reserved for or held by a vehicle becomes free. -/
def State.freeSpotsOf (s : State) (v : Nat) : State := s.freeSpots (s.spotsOf v (fun _ => true))
/-- R57: the lowest-numbered free spot. -/
def State.freeSpot? (s : State) : Option Nat := s.spotNums.find? (fun n => (s.spot n).isNone)

/-! ### Candidates and the choice (R51, R55 to R57) -/

/-- R51: the entry end is free. -/
def entryEndFree (g : LaneGeo) (es : List Entry) : Bool :=
  match g.kind with
  | .flow => (es.getLast?).all (fun e => decide (e.pos < g.depth))
  | .dead => (es.head?).all (fun e => decide (1 < e.pos))
/-- R51: the target position. -/
def targetPos (g : LaneGeo) (es : List Entry) : Nat :=
  match g.kind with
  | .flow => ((es.getLast?).map (fun e => e.pos + 1)).getD 1
  | .dead => ((es.head?).map (fun e => e.pos - 1)).getD g.depth
/-- R56: the neighbour at the entry end. -/
def neighbour (g : LaneGeo) (es : List Entry) : Option Nat :=
  match g.kind with
  | .flow => (es.getLast?).map (·.vehicle)
  | .dead => (es.head?).map (·.vehicle)
/-- R55: no movement blocks the entry. -/
def entryClear (g : LaneGeo) (r : Lane) : Bool :=
  match g.kind with
  | .flow => !r.entryInFlight
  | .dead => !r.entryInFlight && !r.exitInFlight
/-- R55: a lane is a candidate for a vehicle. -/
def State.candidate (s : State) (v l : Nat) : Bool :=
  let g := s.geo.lane l
  let r := s.lane l
  r.state == .opened && !r.closing && fitsBerth (s.vehicle v).body g.cls && entryEndFree g r.entries &&
  entryClear g r
/-- R56: the distance of two keys. -/
def keyGap (a b : Nat) : Nat := (a - b) + (b - a)
/-- R56: a candidate is ordered for a vehicle. -/
def State.orderedIn (s : State) (v l : Nat) : Bool :=
  let g := s.geo.lane l
  match neighbour g (s.lane l).entries with
  | none => true
  | some w =>
    match g.kind with
    | .flow => decide ((s.vehicle w).key ≤ (s.vehicle v).key)
    | .dead => decide ((s.vehicle v).key ≤ (s.vehicle w).key)
/-- R56: the gap, or the violation. -/
def State.gapIn (s : State) (v l : Nat) : Nat :=
  match neighbour (s.geo.lane l) (s.lane l).entries with
  | none => 1441
  | some w => keyGap (s.vehicle v).key (s.vehicle w).key
/-- R57: the target position has a charge point that is IDLE. -/
def State.targetCharges (s : State) (l : Nat) : Bool :=
  let g := s.geo.lane l
  match g.points.get? (targetPos g (s.lane l).entries) with
  | some p => (s.point p).state == .idle
  | none => false

/-- R57: where placement sends a vehicle; `block` for step 4. -/
inductive Berth where
  | lane (l : Nat) (block : Bool)
  | spot (n : Nat)
  | nowhere
  deriving DecidableEq, Repr

/-- R57: smallest gap, ties to the lower lane number. -/
def State.nearest (s : State) (v : Nat) (ls : List Nat) : Option Nat :=
  leastBy (fun l => [(s.gapIn v l : Int), (l : Int)]) ls
/-- R57: the five steps. -/
def State.chooseBerth (s : State) (v : Nat) : Berth :=
  let cands := s.laneNums.filter (s.candidate v)
  let ordered := cands.filter (s.orderedIn v)
  let step1 := if (s.vehicle v).battery && decide (0 < s.needOf v) then
      s.nearest v (ordered.filter s.targetCharges) else none
  match step1 with
  | some l => .lane l false
  | none =>
    match s.nearest v ordered with
    | some l => .lane l false
    | none =>
      match s.freeSpot? with
      | some n => .spot n
      | none =>
        match s.nearest v (cands.filter (fun l => !s.orderedIn v l)) with
        | some l => .lane l true
        | none => .nowhere

/-- R58: a movement into a lane: the ARRIVING entry, TO-BERTH. -/
def State.headFor (s : State) (v l deadline : Nat) : State :=
  let pos := targetPos (s.geo.lane l) (s.lane l).entries
  (s.addEntry l { vehicle := v, pos := pos, mark := .arriving deadline }).place v .toBerth (.lane l pos)

/-- R54 to R58: placement from a station at that node; none when it finds nowhere or the mode is not RUNNING. -/
def State.tryPlace (s : State) (v node : Nat) : Option State :=
  if s.mode = .running then
    match s.chooseBerth v with
    | .lane l block =>
      let s' := (s.headFor v l s.moveDeadline).direct node v .lane l
      some (if block then s'.raise .blockCreated else s')
    | .spot n => some (((s.setSpot n (some (.held v))).place v .inOverflow (.overflow n)).direct node v .overflow n)
    | .nowhere => none
  else none

/-- R59: a vehicle becomes STRANDED at its station. -/
def State.strand (s : State) (v : Nat) (loc : Loc) : State :=
  if (s.vehicle v).state = .stranded then s
  else
    let s' := (s.place v .stranded loc).setStranded (s.yard.stranded.filter (· != v) ++ [v])
    (s'.report .l4 v).raise .stranded
/-- R60: a vehicle leaves the stranded list. -/
def State.unstrand (s : State) (v : Nat) : State := s.setStranded (s.yard.stranded.filter (· != v))

/-! ### Calls at the lanes (R69) -/

/-- R69: the lane test: exit-ready, OPEN or CLOSED, no exit in flight, in a DEAD lane no entry in flight. -/
def State.laneCallable (s : State) (v l : Nat) : Bool :=
  let r := s.lane l
  (r.entries.head?).any (fun e => e.vehicle == v) && r.state != .unverified && !r.exitInFlight &&
  !((s.geo.lane l).kind == .dead && r.entryInFlight)
/-- R69: a vehicle is callable. -/
def State.callable (s : State) (v : Nat) : Bool :=
  match (s.vehicle v).state, (s.vehicle v).loc with
  | .parked, .lane l _ => s.laneCallable v l
  | .inOverflow, _ => true
  | _, _ => false

/-! ### Moves that are over (R62 to R64) -/

/-- R52, R64: a LEAVING entry of a move that is still under way. -/
def Entry.isMove (e : Entry) : Bool :=
  match e.mark with
  | .leavingMove _ ended => !ended
  | .settled | .arriving _ | .leavingCall | .leavingExit => false
/-- R64: the entry, its move over if it is that vehicle's. -/
def Entry.closeMove (v : Nat) (e : Entry) : Entry :=
  match e.mark with
  | .leavingMove d _ => if e.vehicle = v then { e with mark := .leavingMove d true } else e
  | .settled | .arriving _ | .leavingCall | .leavingExit => e
/-- R62, R64: the move of a vehicle is over at its destination; the LEAVING entry in its source lane, if it still
stands, waits for its berth. -/
def State.closeMove (s : State) (v : Nat) : State :=
  match s.laneWith v Entry.isMove with
  | some l => s.setEntries l ((s.lane l).entries.map (Entry.closeMove v))
  | none => s

/-! ### Reports (R62, R63) -/

/-- R115: the berth-cleared mark of a vehicle's CALLED slot. -/
def State.berthCleared (s : State) (v : Nat) : State :=
  match (s.vehicle v).assignment with
  | some n => s.updSlot n (fun x => { x with call := x.call.map (fun c => { c with cleared := true }) })
  | none => s

/-- R62: a position with an ARRIVING entry has become occupied. -/
def State.confirmArrival (s : State) (l : Nat) (e : Entry) : State :=
  let s1 := ((s.setMark l e.vehicle e.pos .settled).closeMove e.vehicle).place e.vehicle .parked (.lane l e.pos)
  let s2 := s1.freeSpots (s1.spotsOf e.vehicle Spot.isHeld)
  let s3 := if (s2.lane l).closing then s2.shut l else s2
  s3.tellArrival l e.pos

/-- R63: a lane with closing pending and no entry in flight becomes CLOSED after a removal. -/
def State.shutIfClosing (s : State) (l : Nat) : State :=
  if (s.lane l).closing && !(s.lane l).entryInFlight then s.shut l else s

/-- R63: a position with a LEAVING entry has become empty. -/
def State.confirmLeft (s : State) (l : Nat) (e : Entry) : State :=
  let s1 := (s.removeEntry l e.vehicle e.pos).shutIfClosing l
  let r := s1.vehicle e.vehicle
  match e.mark with
  | .leavingCall =>
    if r.state = .departing ∧ r.loc = .lane l e.pos then
      (s1.place e.vehicle .departing .apron).berthCleared e.vehicle
    else s1
  | .leavingMove _ ended =>
    match ended, r.state, r.loc with
    | false, .toBerth, .overflow n => (s1.setSpot n (some (.held e.vehicle))).place e.vehicle .inOverflow (.overflow n)
    | _, _, _ => s1
  | .leavingExit | .settled | .arriving _ => s1

/-- R62: the change of one position that has become occupied, judged by the list as it stood. -/
def State.occupiedAt (l : Nat) (before : Lane) (s : State) (pos : Nat) : State :=
  match before.at? pos with
  | some e => if e.mark.isArriving then s.confirmArrival l e else s
  | none => s
/-- R63: the change of one position that has become empty, judged by the list as it stood. -/
def State.emptiedAt (l : Nat) (before : Lane) (s : State) (pos : Nat) : State :=
  match before.at? pos with
  | some e => if e.mark.isLeaving then s.confirmLeft l e else s
  | none => s
/-- R62, R63: a change of one position that disagrees with the list. -/
def disagrees (before : Lane) (occupied : Bool) (pos : Nat) : Bool :=
  match before.at? pos with
  | none => occupied
  | some e => !occupied && !e.mark.isLeaving

/-- R61: the positions of a set within a lane's depth. -/
def positionsIn (depth : Nat) (set : BitVec 8) : List Nat := (upTo 1 depth).filter (bitOf set)

/-- R61: the agreeing changes of a report, then its mismatch, on an OPEN or CLOSED lane. -/
def State.judgeReport (s : State) (l : Nat) (before : Lane) (set : BitVec 8) : State :=
  let depth := (s.geo.lane l).depth
  let filled := positionsIn depth (set &&& ~~~before.image)
  let emptied := positionsIn depth (before.image &&& ~~~set)
  let s1 := filled.foldl (State.occupiedAt l before) s
  let s2 := emptied.foldl (State.emptiedAt l before) s1
  if filled.any (disagrees before true) || emptied.any (disagrees before false) then s2.mismatch l else s2

/-- R61: a report from a lane's node; the set is already cut to the lane's depth. -/
def State.takeLaneReport (s : State) (l : Nat) (set : BitVec 8) : State :=
  let before := s.lane l
  let s' := s.updLane l (fun r => { r with image := set })
  if before.state = .unverified then s' else s'.judgeReport l before set

/-! ### Expiry (R64) -/

/-- R64: a vehicle's movement has expired: UNKNOWN, L1, MOVE-EXPIRED. -/
def State.lose (s : State) (v : Nat) : State :=
  ((s.place v .unknown .absent).report .l1 v).raise .moveExpired

/-- R64: an ARRIVING entry whose deadline has been reached. -/
def State.arrivalDue (s : State) (e : Entry) : Bool :=
  match e.mark with
  | .arriving d => s.reached d
  | .settled | .leavingCall | .leavingMove _ _ | .leavingExit => false
/-- R64: a LEAVING entry of reason MOVE whose deadline has been reached. -/
def State.moveDue (s : State) (e : Entry) : Bool :=
  match e.mark with
  | .leavingMove d _ => s.reached d
  | .settled | .arriving _ | .leavingCall | .leavingExit => false
/-- R64: a reservation whose deadline has been reached. -/
def State.reservationDue (s : State) (x : Spot) : Bool :=
  match x with
  | .reserved _ d => s.reached d
  | .held _ => false

/-- R64, R70: the LEAVING entry of the move that a vehicle is on goes, and its lane becomes UNVERIFIED. -/
def State.dropSource (s : State) (v : Nat) : State :=
  match s.laneWith v Entry.isMove with
  | some l => (s.dropEntries l (fun e => e.vehicle == v && e.isMove)).unverify l
  | none => s

/-- R64: an ARRIVING entry expires. -/
def State.expireArrival (s : State) (l v pos : Nat) : State :=
  ((((s.removeEntry l v pos).unverify l).dropSource v).freeSpotsOf v).lose v
/-- R64: a reservation of a vehicle expires. -/
def State.expireReservation (s : State) (v : Nat) : State := ((s.freeSpotsOf v).dropSource v).lose v
/-- R64: a LEAVING entry of reason MOVE expires by itself: its move is over, or goes on at its destination alone
(R173), also where the arrival there, rebuilt with a later deadline, still stands (log entry 48). -/
def State.expireLeaving (s : State) (l v pos : Nat) : State := (s.removeEntry l v pos).mismatch l

/-- R64: a movement: an entry of a lane, or the reservation of a spot, with its vehicle. -/
inductive Movement where
  | arriving (l v pos : Nat)
  | reserved (v : Nat)
  | leaving (l v pos : Nat)
  deriving DecidableEq, Repr
/-- R64: the vehicle of a movement. -/
def Movement.vehicle : Movement → Nat
  | .arriving _ v _ => v
  | .reserved v => v
  | .leaving _ v _ => v
/-- R64: a movement expires. -/
def State.expireMovement (s : State) (m : Movement) : State :=
  match m with
  | .arriving l v pos => s.expireArrival l v pos
  | .reserved v => s.expireReservation v
  | .leaving l v pos => s.expireLeaving l v pos
/-- R64: whether a movement still stands with its deadline reached. -/
def State.movementDue (s : State) (m : Movement) : Bool :=
  match m with
  | .arriving l v pos => (s.lane l).entries.any (fun e => e.of v pos && s.arrivalDue e)
  | .reserved v => !(s.spotsOf v s.reservationDue).isEmpty
  | .leaving l v pos => (s.lane l).entries.any (fun e => e.of v pos && s.moveDue e)
/-- R64: the entries of a lane that `due` accepts, as movements. -/
def State.laneMovements (s : State) (due : Entry → Bool) (f : Nat → Nat → Nat → Movement) : List Movement :=
  s.laneNums.flatMap (fun l => ((s.lane l).entries.filter due).map (fun e => f l e.vehicle e.pos))
/-- R64: the movements whose deadline has been reached: arrivals by lane and position, then reservations by spot, then
the berths that a move left behind (log entry 11), each by its own deadline (log entry 48). -/
def State.dueMovements (s : State) : List Movement :=
  s.laneMovements s.arrivalDue .arriving ++
  (s.spotNums.filterMap s.spot).filterMap (fun x => if s.reservationDue x then some (.reserved x.vehicle) else none) ++
  s.laneMovements s.moveDue .leaving

/-! ### Abandoned movements (R76) -/

/-- R76: the vehicles of a list of indices become UNKNOWN with location absent. -/
def State.abandon (s : State) (vs : List Nat) : State := vs.foldl (fun t v => t.place v .unknown .absent) s
/-- R15: the vehicles in a state, rising. -/
def State.inState (s : State) (st : VehState) : List Nat :=
  (s.fleet.vehicles.rows.filter (fun r => r.2.state == st)).map (·.1)

/-- R76: the entries that stay when movements are abandoned. -/
def Entry.stays (e : Entry) : Bool :=
  match e.mark with
  | .settled | .leavingCall => true
  | .arriving _ | .leavingMove _ _ | .leavingExit => false
/-- R76: a lane on entry to CENSUS or CONFIGURE. -/
def State.abandonLane (s : State) (l : Nat) : State :=
  ((s.setEntries l ((s.lane l).entries.filter Entry.stays)).unverify l).recountChanged l
/-- R76: a spot on entry to CENSUS or CONFIGURE. -/
def abandonSpot (movers : List Nat) (x : Spot) : Bool := x.isHeld && !movers.contains x.vehicle
/-- R76: every movement in flight is abandoned and every lane becomes UNVERIFIED. -/
def State.abandonMovements (s : State) : State :=
  let movers := s.inState .toBerth
  let s1 := s.freeSpots (s.spotNums.filter (fun n => (s.spot n).any (fun x => !abandonSpot movers x)))
  (s1.laneNums.foldl State.abandonLane s1).abandon movers

/-! ### Uncalled exits at the lanes (R70) -/

/-- R70: what the Lane Manager does for a vehicle that stood as `r` says and has become OUT. -/
def State.releaseYard (s : State) (v : Nat) (r : Vehicle) : State :=
  match r.state, r.loc with
  | .parked, .lane l pos =>
    let s1 := if ((s.lane l).entries.head?).any (Entry.of v pos) then s.setMark l v pos .leavingExit
      else (s.removeEntry l v pos).unverify l
    s1.tellDeparture v l pos
  | .toBerth, .lane l pos => (((s.removeEntry l v pos).unverify l).dropSource v).freeSpotsOf v
  | .toBerth, .overflow _ => (s.dropSource v).freeSpotsOf v
  | .inOverflow, _ => s.freeSpotsOf v
  | .stranded, _ => s.unstrand v
  | _, _ => s

end Sys2Proof.Machine
end

