-- ==== Sys2Proof/Machine/Service.lean ====
section
/-! DEFINITION. The Service Line Controller: gate queues, the pad, the turn arbiter, bays, wash lanes, and the retry of
the stranded list (chapters 2 and 3, R60). -/

namespace Sys2Proof.Machine

/-! ### Gate queues and the pad (R20, R23, R24) -/

/-- R20: the order fields of a gate queue. -/
def State.orderGate (s : State) (g : Nat) : List Waiting → Nat → State
  | [], _ => s
  | w :: ws, n => State.orderGate (s.place w.vehicle .atGate (.gateQueue g n)) g ws (n + 1)
/-- R20: a gate queue becomes `q`, its vehicles ordered from 1. -/
def State.putGateQueue (s : State) (g : Nat) (q : List Waiting) : State := (s.setGateQueue g q).orderGate g q 1
/-- R23: the lowest free pad spot. -/
def State.freePad? (s : State) : Option Nat := (upTo 1 s.geo.padCapacity).find? (fun p => (s.pad p).isNone)
/-- R24: the gate whose head is admitted: the earlier arrival, gate 1 on equal times. -/
def State.nextGate (s : State) : Option Nat :=
  match s.service.gate1.head?, s.service.gate2.head? with
  | none, none => none
  | some _, none => some 1
  | none, some _ => some 2
  | some a, some b => if b.arrival < a.arrival then some 2 else some 1

/-! ### Bays and the turn arbiter (R26, R34 to R38) -/

/-- R34: a bay is compatible with a vehicle. -/
def State.bayServes (s : State) (b v : Nat) : Bool := (s.geo.bay b).kind == .fuel || (s.vehicle v).battery
/-- R36, R37: an ON-PAD vehicle is directed to a FREE bay, and its pad spot is freed. -/
def State.sendToBay (s : State) (b v : Nat) : State :=
  let s1 := match (s.vehicle v).loc with
    | .pad p => s.setPad p none
    | _ => s
  let s2 := (s1.place v .toBay (.bay b)).updBay b (fun r =>
    { r with state := .awaiting, occupant := some v, onward := false, deadline := some s.moveDeadline })
  s2.direct s2.geo.display v .bay b
/-- R37: the bay a vehicle that reaches the pad takes: a FREE SERVICE bay first for a BATTERY vehicle. -/
def State.bayFor (s : State) (v : Nat) : Option Nat :=
  let free := s.bayNums.filter (fun b => (s.bay b).state == .free)
  let service := free.filter (fun b => (s.geo.bay b).kind == .service)
  let fuel := free.filter (fun b => (s.geo.bay b).kind == .fuel)
  if (s.vehicle v).battery then (service ++ fuel).head? else fuel.head?
/-- R24, R37: the vehicle at the head of a gate queue takes a pad spot, with its DIRECT. -/
def State.admitFrom (s : State) (g p : Nat) : Option (Nat × State) :=
  match s.gateQueue g with
  | [] => none
  | w :: q =>
    let s1 := ((s.putGateQueue g q).setPad p (some w)).place w.vehicle .onPad (.pad p)
    some (w.vehicle, s1.direct (s1.geo.gate g).node w.vehicle .pad p)
/-- R24, R37: a freed pad spot admits one vehicle; one that is directed on at once frees its spot again. The first
argument bounds the admissions. -/
def State.admitUpTo : Nat → State → State
  | 0, s => s
  | n + 1, s =>
    if s.mode = .running then
      match s.nextGate, s.freePad? with
      | some g, some p =>
        match s.admitFrom g p with
        | none => s
        | some (v, s1) =>
          match s1.bayFor v with
          | none => s1
          | some b => State.admitUpTo n (s1.sendToBay b v)
      | _, _ => s
    else s
/-- R24: a pad spot has been freed. -/
def State.fillPad (s : State) : State :=
  s.admitUpTo (s.service.gate1.length + s.service.gate2.length)

/-- R36: the candidates for a bay: pad spots with their vehicles. -/
def State.bayCandidates (s : State) (b : Nat) : List Waiting :=
  (s.service.pad.rows.map (·.2)).filter (fun w => s.bayServes b w.vehicle)
/-- R36: the winner. -/
def State.bayWinner (s : State) (cs : List Waiting) : Option Waiting :=
  let late := cs.filter (fun w => decide (s.beh.passLimit ≤ (s.vehicle w.vehicle).passOver))
  if late.isEmpty then
    leastBy (fun w => [(s.turnKey w.vehicle : Int), (w.arrival : Int), (w.vehicle : Int)]) cs
  else leastBy (fun w => [(w.arrival : Int), (w.vehicle : Int)]) late
/-- R36: the pass-over counts after a turn. -/
def State.countTurn (winner : Nat) (s : State) (w : Waiting) : State :=
  s.updVehicle w.vehicle (fun r => { r with passOver := if w.vehicle = winner then 0 else min 15 (r.passOver + 1) })
/-- R36: a FREE bay is offered to the pad; the spot the winner frees admits nobody yet. -/
def State.takeTurn (s : State) (b : Nat) : Option State :=
  let cs := s.bayCandidates b
  (s.bayWinner cs).map (fun w => (cs.foldl (State.countTurn w.vehicle) s).sendToBay b w.vehicle)
/-- R34, R36: a bay that has become FREE is offered to the pad in RUNNING. -/
def State.offerBay (s : State) (b : Nat) : State :=
  if s.mode = .running ∧ (s.bay b).state = .free then
    match s.takeTurn b with
    | some s' => s'.fillPad
    | none => s
  else s
/-- R38: one bay of the sweep, with admission held back. -/
def State.sweepBay (s : State) (b : Nat) : State :=
  if (s.bay b).state = .free then (s.takeTurn b).getD s else s
/-- R38: the sweep on entry to RUNNING. -/
def State.sweep (s : State) : State :=
  let s1 := s.bayNums.foldl State.sweepBay s
  let free := (upTo 1 s1.geo.padCapacity).filter (fun p => (s1.pad p).isNone)
  free.foldl (fun t _ => t.fillPad) s1

/-- R26: a bay without its occupant. -/
def Bay.emptied (r : Bay) : Bay := { r with occupant := none, onward := false, deadline := none }
/-- R30 to R33: a bay becomes FREE, or CLOSED if closing is pending, and a FREE one is offered. -/
def State.freeBay (s : State) (b : Nat) : State :=
  let r := s.bay b
  if r.closing then s.setBay b { r with state := .closed, closing := false }
  else (s.setBay b { r with state := .free }).offerBay b

/-- R54, R58, R59: a vehicle in a bay is handed to placement. -/
def State.placeFromBay (s : State) (b v : Nat) : State :=
  match s.tryPlace v (s.geo.bay b).node with
  | some s' => s'.updBay b (fun r => { r with onward := true })
  | none => s.strand v (.bay b)

/-! ### Wash lanes (R39 to R48) -/

/-- R40: the order fields of a wash queue; a STRANDED entry keeps its location. -/
def State.orderWash (s : State) (l : Nat) : List WashEntry → Nat → State
  | [], _ => s
  | e :: es, n =>
    let s' := if (s.vehicle e.vehicle).state = .toWash then s.place e.vehicle .toWash (.washQueue l n) else s
    State.orderWash s' l es (n + 1)
/-- R40: a wash queue becomes `q`, its vehicles ordered from 1. -/
def State.putWashQueue (s : State) (l : Nat) (q : List WashEntry) : State :=
  (s.updWash l (fun r => { r with queue := q })).orderWash l q 1
/-- R42, R46: a wash lane can take another vehicle. -/
def State.washTakes (s : State) (l : Nat) : Bool :=
  let r := s.wash l
  s.washNums.contains l && (r.state == .idle || r.state == .washing) && !r.closing &&
  decide (r.queue.length < Config.washQueueMax)
/-- R43: an IDLE lane directs its TO-WASH head in. -/
def State.directIn (s : State) (l : Nat) : State :=
  let r := s.wash l
  match r.queue with
  | [] => s
  | e :: q =>
    if s.mode = .running ∧ r.state = .idle ∧ e.directed = none ∧ (s.vehicle e.vehicle).state = .toWash then
      (s.setWash l { r with queue := { e with directed := some s.moveDeadline } :: q }).direct (s.geo.washNode l)
        e.vehicle (if e.heavy then .washHeavy else .washStandard) l
    else s
/-- R43, R49: an IDLE lane with closing pending and an empty queue becomes CLOSED; an IDLE lane directs its head in. -/
def State.settleWash (s : State) (l : Nat) : State :=
  let r := s.wash l
  if r.state = .idle ∧ r.closing = true ∧ r.queue.isEmpty = true then
    s.setWash l { r with state := .closed, closing := false }
  else s.directIn l
/-- R45: the occupant is cleared; the lane is freed, but a FAULTED one stays FAULTED. -/
def State.freeWash (s : State) (l : Nat) : State :=
  let r := s.wash l
  (s.setWash l { r with occupant := none, state := if r.state = .washing then .idle else r.state }).settleWash l
/-- R40: a vehicle's entry leaves a wash queue. -/
def State.leaveWashQueue (s : State) (l v : Nat) : State :=
  (s.putWashQueue l ((s.wash l).queue.filter (fun e => e.vehicle != v))).settleWash l
/-- R40, R42: a vehicle joins the tail of a wash queue. -/
def State.joinWash (s : State) (l v : Nat) (heavy : Bool) : State :=
  let q := (s.wash l).queue
  (s.updWash l (fun r => { r with queue := q ++ [{ vehicle := v, heavy := heavy, directed := none }] })).place v
    .toWash (.washQueue l (q.length + 1))

/-- R41: the days since the last wash are at or above `days`; always when it is absent. -/
def washAged (lastWash : Option Nat) (today days : Nat) : Bool :=
  match lastWash with
  | none => true
  | some d => decide ((days : Int) ≤ (today : Int) - (d : Int))
/-- R42: the minutes left before a minute, as they may be negative. -/
def minutesLeft (minute now : Nat) : Int := (minute : Int) - (now : Int)
/-- R42: the wash is skipped. -/
def State.skipsWash (s : State) (v : Nat) : Bool :=
  let r := s.vehicle v
  let left := minutesLeft r.key s.clock.minute
  !washAged r.lastWash s.clock.day r.washInterval || decide (left < (s.beh.washSkip : Int)) ||
  s.washNums.all (fun l => !s.washTakes l) ||
  (r.battery && decide (0 < s.needOf v) && decide (left - (s.chargeMinutes v : Int) < (s.beh.washSkip : Int))) ||
  s.mode != .running
/-- R42: the lane the wash takes: fewer queue entries, then the lower number. -/
def State.washFor (s : State) : Option Nat :=
  leastBy (fun l => [((s.wash l).queue.length : Int), (l : Int)]) (s.washNums.filter s.washTakes)
/-- R41, R42: the wash decision for the occupant of a bay. -/
def State.washDecision (s : State) (b v : Nat) : State :=
  if s.skipsWash v then s.placeFromBay b v
  else match s.washFor with
    | none => s.placeFromBay b v
    | some l =>
      let r := s.vehicle v
      let s1 := s.joinWash l v (washAged r.lastWash s.clock.day (2 * r.washInterval))
      let s2 := (s1.updBay b (fun x => { x with onward := true })).direct (s.geo.bay b).node v .washQueue l
      s2.directIn l

/-- R45, R47: the occupant of a wash lane is handed to placement. -/
def State.placeFromWash (s : State) (l v : Nat) : State :=
  match s.tryPlace v (s.geo.washNode l) with
  | some s' => s'.freeWash l
  | none => s.strand v (.wash l)

/-- R46: the other wash lane. -/
def otherWash (l : Nat) : Nat := if l = 1 then 2 else 1
/-- R46: the queue of a faulted lane, from the head: what is left of it, and the state. `placing` once an entry
has gone to placement. An entry that placement strands loses its directed-in mark and deadline, which R46 says of a
transfer alone (log entry 66). -/
def emptyFaulted (l : Nat) : Bool → List WashEntry → State → List WashEntry × State
  | _, [], s => ([], s)
  | placing, e :: es, s =>
    if (s.vehicle e.vehicle).state = .toWash then
      let o := otherWash l
      if !placing && s.washTakes o && s.mode == .running then
        emptyFaulted l false es (((s.joinWash o e.vehicle e.heavy).direct (s.geo.washNode l) e.vehicle .washQueue
          o).directIn o)
      else
        match s.tryPlace e.vehicle (s.geo.washNode l) with
        | some s' => emptyFaulted l true es s'
        | none =>
          let r := emptyFaulted l true es (s.strand e.vehicle (.wash l))
          ({ e with directed := none } :: r.1, r.2)
    else
      let r := emptyFaulted l placing es s
      (e :: r.1, r.2)
/-- R46: the queue of a faulted lane is emptied. -/
def State.emptyWash (s : State) (l : Nat) : State :=
  let r := emptyFaulted l false (s.wash l).queue s
  r.2.updWash l (fun x => { x with queue := r.1 })

/-! ### The stranded list (R60) -/

/-- R48, R60: the station of a STRANDED vehicle that has been placed is released. -/
def State.releaseStation (s : State) (v : Nat) (loc : Loc) : State :=
  match loc with
  | .bay b => s.updBay b (fun r => { r with onward := true })
  | .wash l => if (s.wash l).occupant = some v then s.freeWash l else s.leaveWashQueue l v
  | .absent | .gateQueue _ _ | .pad _ | .washQueue _ _ | .lane _ _ | .overflow _ | .apron => s
/-- R58: the node of a STRANDED vehicle's station. -/
def State.stationNode (s : State) (loc : Loc) : Nat :=
  match loc with
  | .bay b => (s.geo.bay b).node
  | .wash l => s.geo.washNode l
  | .absent | .gateQueue _ _ | .pad _ | .washQueue _ _ | .lane _ _ | .overflow _ | .apron => 0
/-- R60: one vehicle of the stranded list is retried. -/
def State.retryOne (s : State) (v : Nat) : State :=
  let loc := (s.vehicle v).loc
  match s.tryPlace v (s.stationNode loc) with
  | some s' => (s'.unstrand v).releaseStation v loc
  | none => s
/-- R60: the stranded list is retried, oldest first, in RUNNING. -/
def State.retry (s : State) : State :=
  if s.mode = .running then s.yard.stranded.foldl State.retryOne s else s
/-- R60: a retry where its trigger has come about. -/
def State.retryIf (s : State) (trigger : Bool) : State := if trigger then s.retry else s

/-! ### Leaving the service line undirected (R25, R48) -/

/-- R25: the occupant of a bay has left undirected. -/
def State.forgetOccupant (s : State) (b : Nat) : State :=
  let r := s.bay b
  let s' := s.setBay b r.emptied
  match r.state with
  | .awaiting => s'.freeBay b
  | .serving => s'.updBay b (fun x => { x with state := .finished })
  | .free | .finished | .closed | .faulted => s'
/-- R25, R48: what held a vehicle that stood as `r` says is released. -/
def State.leaveLine (s : State) (v : Nat) (r : Vehicle) : State :=
  match r.state, r.loc with
  | .atGate, .gateQueue g _ => s.putGateQueue g ((s.gateQueue g).filter (fun w => w.vehicle != v))
  | .onPad, .pad p => (s.setPad p none).fillPad
  | .toBay, .bay b => s.forgetOccupant b
  | .inBay, .bay b => s.forgetOccupant b
  | .stranded, .bay b => s.forgetOccupant b
  | .toWash, .washQueue l _ => s.leaveWashQueue l v
  | .washing, .wash l => s.freeWash l
  | .stranded, .wash l => if (s.wash l).occupant = some v then s.freeWash l else s.leaveWashQueue l v
  | _, _ => s

/-- R25, R48, R179: the movements of the service line are abandoned. -/
def State.abandonOne (s : State) (v : Nat) : State := (s.place v .unknown .absent).leaveLine v (s.vehicle v)
/-- R25, R48, R179: every TO-BAY and TO-WASH movement is abandoned. -/
def State.abandonLine (s : State) : State :=
  (s.inState .toBay ++ s.inState .toWash).foldl State.abandonOne s

/-! ### Expiries (R32, R43) -/

/-- R32: a TO-BAY occupant whose deadline has been reached. -/
def State.bayDue (s : State) (b : Nat) : Bool :=
  let r := s.bay b
  !r.onward && r.deadline.any s.reached && r.occupant.any (fun v => (s.vehicle v).state == .toBay)
/-- R32: the movement to a bay expires. -/
def State.expireBay (s : State) (b : Nat) : State :=
  let r := s.bay b
  match r.occupant with
  | none => s
  | some v =>
    let s' := (s.lose v).setBay b r.emptied
    if r.state = .awaiting then s'.freeBay b else s'
/-- R43: a directed-in head whose deadline has been reached. -/
def State.washDue (s : State) (l : Nat) : Bool :=
  ((s.wash l).queue.head?).any (fun e => e.directed.any s.reached)
/-- R43: the movement of a wash head expires. -/
def State.expireWash (s : State) (l : Nat) : State :=
  match (s.wash l).queue with
  | [] => s
  | e :: _ => (s.lose e.vehicle).leaveWashQueue l e.vehicle

end Sys2Proof.Machine
end

