-- ==== Sys2Proof/Machine/Roster.lean ====
section
/-! DEFINITION. The Roster Unit: assignments and keys passed on, calls and their withdrawal, eligibility, substitution,
the attempt pass, grace, commit and rollover (R16, R17, chapter 6). -/

namespace Sys2Proof.Machine

/-! ### Assignments and keys (R16, R17, R105) -/

/-- R105: the vehicle's side of an active assignment. -/
def State.setAssignment (s : State) (v : Nat) (n : Option Nat) : State :=
  s.updVehicle v (fun r => { r with assignment := n })
/-- R16: the departure key is recomputed. -/
def State.rekey (s : State) (v : Nat) : State := s.updVehicle v (fun r => { r with key := s.keyOf r.assignment })
/-- R16, R17: changed assignments and keys, passed on as one change. -/
def State.passOn (s : State) (vs : List Nat) : State :=
  let s' := (vs.foldl State.rekey s).recountAll.retargetAll
  vs.foldl State.regrade s'
/-- R17, R93: the vehicles whose assignment, or whose key or requirement by the plan, changed since `before`. An assignment
that a commit makes again to a slot of the same number is another one where the slot demands otherwise (R127). -/
def State.changedSince (before s : State) : List Nat :=
  s.fleet.vehicles.keys.filter (fun v =>
    (before.vehicle v).assignment != (s.vehicle v).assignment ||
    (before.vehicle v).key != s.keyOf (s.vehicle v).assignment || before.requirementOf v != s.requirementOf v)
/-- R16, R17: whatever a change of the plans changed, passed on. -/
def State.passChanges (s before : State) : State := s.passOn (State.changedSince before s)

/-- R104: a slot put in plan order. -/
def insertSlot (x : Slot) : List Slot → List Slot
  | [] => [x]
  | y :: ys =>
    if x.release < y.release ∨ (x.release = y.release ∧ x.num < y.num) then x :: y :: ys
    else y :: insertSlot x ys
/-- R103: a slot that finishes: its vehicle becomes the last vehicle, the call record is dropped. -/
def Slot.finish (x : Slot) (st : SlotState) : Slot :=
  { x with state := st, last := if x.assigned.isSome then x.assigned else x.last, assigned := none, call := none }
/-- R112, R124: a slot without a vehicle is OPEN, the substituted flag clear. -/
def Slot.opened (x : Slot) : Slot := { x with state := .opened, assigned := none, substituted := false }
/-- R103: a slot given a vehicle. -/
def Slot.give (x : Slot) (v fleet : Nat) (sub : Bool) : Slot :=
  { x with state := .assigned, assigned := some (v, fleet), substituted := sub }

/-! ### Calls (R109, R110) -/

/-- R109: the place a vehicle stands, where a call can take it from. -/
def standing (loc : Loc) : Option Place :=
  match loc with
  | .lane l p => some (.lane l p)
  | .overflow n => some (.spot n)
  | .absent | .gateQueue _ _ | .pad _ | .bay _ | .washQueue _ _ | .wash _ | .apron => none
/-- R109: the session of a called vehicle ends; a waiting grade goes with it. The grade is cleared at the lowest point bound to
an entry of the vehicle: where it also has the LEAVING entry of an earlier move at a lower-numbered point, that point's is cleared
and the grade at the point where it stands stays, which R93 does not speak of (log entry 47). -/
def State.endCharging (s : State) (v : Nat) : State :=
  let s' := match s.pointNums.find? (fun p => (s.boundEntry p).any (fun e => e.vehicle == v)) with
    | some p => s.updPoint p (fun r => { r with waiting := none })
    | none => s
  match s'.sessionPoint v with
  | some p => s'.endSession p
  | none => s'
/-- R109: a vehicle is called for a slot. -/
def State.callVehicle (s : State) (n v : Nat) : State :=
  match standing (s.vehicle v).loc, s.slot n with
  | some place, some x =>
    let c : Call := { time := s.now, deadline := s.now + s.beh.callTimeout, place := place, node := s.placeNode place,
                      cleared := false }
    let s1 := (s.updSlot n (fun y => { y with state := .called, call := some c })).updVehicle v (fun r =>
      { r with state := .departing })
    let s2 := match place with
      | .lane l pos => s1.setMark l v pos .leavingCall
      | .spot _ => s1
    (s2.endCharging v).callMsg place v x.gate n
  | _, _ => s

/-- R110: an unconfirmed exit: the slot finishes, the vehicle is OUT, L5. The key that changes with the assignment is still to
be passed on (R17). -/
def State.closeUnconfirmed (s : State) (n v : Nat) (st : SlotState) : State :=
  let s1 := s.updSlot n (fun x => { x.finish st with unconfirmed := x.unconfirmed || st == .gone })
  ((s1.place v .out .absent).setAssignment v none).report .l5 v
/-- R17, R110: an unconfirmed exit that is a change of its own, passed on at once. -/
def State.finishUnconfirmed (s : State) (n v : Nat) (st : SlotState) : State := (s.closeUnconfirmed n v st).passOn [v]
/-- R110: a call is withdrawn from a vehicle that still stands at its place; the slot becomes ASSIGNED. -/
def State.withdrawStanding (s : State) (n v : Nat) (c : Call) : State :=
  let s1 := (s.cancelCallMsg c.node c.place n).updSlot n (fun x => { x with state := .assigned, call := none })
  match c.place with
  | .lane l p => ((s1.place v .parked (.lane l p)).setMark l v p .settled).tellArrival l p
  | .spot k => s1.place v .inOverflow (.overflow k)
/-- R110: the call of a slot ends: `atApron` is what an exit comes to whose vehicle is at APRON; a vehicle that still stands at
its place has its call withdrawn. -/
def State.endCall (s : State) (atApron : State → Nat → Nat → SlotState → State) (n : Nat) : State :=
  match s.slot n with
  | none => s
  | some x =>
    match x.call, x.assigned with
    | some c, some (v, _) =>
      if (s.vehicle v).loc = .apron then atApron s n v .gone else s.withdrawStanding n v c
    | _, _ => s
/-- R110: the call of a slot is withdrawn, or its exit finishes unconfirmed when the vehicle is at APRON. -/
def State.withdrawCall (s : State) (n : Nat) : State := s.endCall State.finishUnconfirmed n
/-- R128: the call of a slot is settled at rollover, as R110 withdraws it; the keys are passed on with the rollover, which is one
change (R17). -/
def State.settleCall (s : State) (n : Nat) : State := s.endCall State.closeUnconfirmed n
/-- R103: the CALLED slots of the active plan, in plan order. R128 and R179 do not order the slots that they settle, which shows
in the order of the CANCEL CALLs and in which L5 is captured: they are taken in plan order (log entry 79). -/
def State.calledSlots (s : State) : List Nat :=
  (s.roster.active.filter (fun x => x.state == .called)).map (·.num)
/-- R179: every call is withdrawn. -/
def State.withdrawAll (s : State) : State := s.calledSlots.foldl State.withdrawCall s
/-- R128: every CALLED slot is settled at rollover. -/
def State.settleAll (s : State) : State := s.calledSlots.foldl State.settleCall s

/-- R9: a hold or damage on a DEPARTING vehicle that still stands at its place withdraws its call. -/
def State.withdrawFrom (s : State) (v : Nat) : State :=
  match (s.vehicle v).state, (s.vehicle v).assignment with
  | .departing, some n => s.withdrawCall n
  | _, _ => s

/-! ### Eligibility and substitution (R107, R111, R112) -/

/-- R107: the first condition that fails; `energy` for condition 6. -/
def State.ineligible (s : State) (v : Nat) (x : Slot) (energy : Bool) : Option Reason :=
  let r := s.vehicle v
  if r.state ≠ .parked ∧ r.state ≠ .inOverflow then some .absent
  else if !s.callable v then some .blocked
  else if r.hold.isSome then some .held
  else if s.damaged v then some .damaged
  else if !x.accepts r then some .unsuited
  else if energy && r.battery && decide (r.soe < x.requirement) then some .lowEnergy
  else none
/-- R107: eligible. -/
def State.eligible (s : State) (v : Nat) (x : Slot) : Bool := (s.ineligible v x true).isNone

/-- R111: a vehicle's own slot lets it substitute: none, or an ASSIGNED one that releases later. -/
def State.sparable (s : State) (v : Nat) (x : Slot) : Bool :=
  match (s.vehicle v).assignment with
  | none => true
  | some m => (s.slot m).any (fun y => y.state == .assigned && decide (x.release < y.release))
/-- R111: the rank of a substitute: unassigned first; the latest release, then later in plan order; lanes, then
spots, by number. -/
def State.subRank (s : State) (v : Nat) : List Int :=
  let own : List Int := match (s.vehicle v).assignment with
    | none => [0, 0, 0]
    | some m => [1, -(((s.slot m).map (·.release)).getD 0 : Int), -(m : Int)]
  let at' : List Int := match (s.vehicle v).loc with
    | .lane l _ => [0, (l : Int)]
    | .overflow n => [1, (n : Int)]
    | _ => [2, 0]
  own ++ at'
/-- R111: the substitute for a slot. -/
def State.substitute (s : State) (x : Slot) : Option Nat :=
  leastBy s.subRank (s.fleet.vehicles.keys.filter (fun w =>
    x.assigned.map (·.1) != some w && s.eligible w x && s.sparable w x))

/-- R112: the swap. -/
def State.swap (s : State) (x : Slot) (w : Nat) : State :=
  let s1 := (s.updSlot x.num (fun y => y.give w (s.fleetOf w) true)).setAssignment w (some x.num)
  let s2 : State := match (s.vehicle w).assignment, x.assigned with
    | some m, some (v, f) =>
      if (s.slot m).any (fun (y : Slot) => y.accepts (s.vehicle v)) then
        (s1.updSlot m (fun y => y.give v f true)).setAssignment v (some m)
      else (s1.updSlot m Slot.opened).setAssignment v none
    | some m, none => s1.updSlot m Slot.opened
    | none, some (v, _) => s1.setAssignment v none
    | none, none => s1
  (s2.passOn (w :: (x.assigned.map Prod.fst).toList)).raise .substitutionMade
/-- R106, R112: the slot that receives the displaced vehicle. -/
def State.displacedTo (s : State) (x : Slot) (w : Nat) : List Nat :=
  match (s.vehicle w).assignment, x.assigned with
  | some m, some (v, _) => if (s.slot m).any (fun y => y.accepts (s.vehicle v)) then [m] else []
  | _, _ => []

/-! ### Attempts (R106, R108, R113) -/

/-- R113: a slot whose grace has passed becomes MISSED. -/
def State.graceTest (s : State) (n : Nat) : State :=
  match s.slot n with
  | none => s
  | some x =>
    if (x.state = .opened ∨ x.state = .assigned) ∧ x.release + s.beh.grace < s.clock.minute then
      let s1 := s.updSlot n (fun y => y.finish .missed)
      let s2 := match x.assigned with
        | some (v, _) => (s1.setAssignment v none).passOn [v]
        | none => s1
      (s2.report .d2 n).raise .slotMissed
    else s
/-- R106: due. -/
def State.due (s : State) (x : Slot) : Bool :=
  s.clock.isSet && (x.state == .opened || x.state == .assigned) &&
  decide (x.release - s.beh.callLead ≤ s.clock.minute)
/-- R108: whether an attempt at a slot calls a vehicle, and which: its own, or a substitute. -/
inductive Pick where
  | own (v : Nat)
  | sub (w : Nat)
  | nobody
  deriving DecidableEq, Repr
/-- R108: the vehicle an attempt calls. -/
def State.pick (s : State) (x : Slot) : Pick :=
  match x.assigned with
  | some (v, _) =>
    if s.eligible v x then .own v
    else match s.substitute x with
      | some w => .sub w
      | none => .nobody
  | none =>
    match s.substitute x with
    | some w => .sub w
    | none => .nobody
/-- R106, R108: one slot of a pass; the list holds the slots the pass does not attempt. -/
def attemptOne (acc : State × List Nat) (n : Nat) : State × List Nat :=
  let s := acc.1
  match s.slot n with
  | none => acc
  | some x =>
    if !s.due x || acc.2.contains n then acc
    else match s.pick x with
      | .own v => (s.callVehicle n v, acc.2)
      | .sub w => ((s.swap x w).callVehicle n w, s.displacedTo x w ++ acc.2)
      | .nobody => (s.graceTest n, acc.2)
/-- R106: an attempt pass in RUNNING, over the slots due as it begins, but for those of `skip`. -/
def State.attemptPass (s : State) (skip : List Nat) : State :=
  if s.mode = .running then
    (((s.roster.active.filter s.due).map (·.num)).foldl attemptOne (s, skip)).1
  else s
/-- R106: an attempt pass where its trigger has come about. -/
def State.attemptIf (s : State) (trigger : Bool) : State := if trigger then s.attemptPass [] else s
/-- R113: the grace tests where no attempts are made. -/
def State.graceTests (s : State) : State :=
  if s.mode = .running ∨ s.clock.isSet = false then s
  else (s.roster.active.map (·.num)).foldl State.graceTest s

/-! ### Call timeouts (R118) -/

/-- R118: a CALLED slot whose deadline has been reached. -/
def State.callDue (s : State) (x : Slot) : Bool := x.state == .called && x.call.any (fun c => s.reached c.deadline)
/-- R118: a call times out. -/
def State.timeoutCall (s : State) (n : Nat) : State :=
  match s.slot n with
  | none => s
  | some x =>
    match x.call, x.assigned with
    | some c, some (v, _) =>
      if c.cleared then s.finishUnconfirmed n v .gone else (s.withdrawStanding n v c).raise .callFailed
    | _, _ => s

/-! ### Commit and rollover (R127, R128) -/

/-- R172: the slot records of a plan are freed. -/
def State.freeSlots (s : State) (xs : List Slot) : State :=
  xs.foldl (fun t x => (t.unmark x.record).freshen x.record) s
/-- R127: every active assignment is cleared on the vehicles' side. -/
def State.clearAssignments (s : State) : State :=
  s.fleet.vehicles.keys.foldl (fun t v => t.setAssignment v none) s
/-- R127: a staged assignment holds at a commit. -/
def State.stagedHolds (s : State) (x : Slot) : Bool :=
  match x.assigned with
  | none => false
  | some (v, f) => (s.vehicle? v).any (fun r => r.fleet == f && !s.damaged v && x.accepts r)
/-- R127: a staged slot as it becomes active. -/
def State.admitSlot (s : State) (x : Slot) : Slot :=
  if x.state = .assigned ∧ s.stagedHolds x = false then x.opened else x
/-- R127: the vehicle's side of an assignment made by a commit. -/
def State.linkSlot (s : State) (x : Slot) : State :=
  match x.state, x.assigned with
  | .assigned, some (v, _) => s.setAssignment v (some x.num)
  | _, _ => s
/-- R127: the staged plan becomes active. -/
def State.commit (s : State) : State :=
  let plan := s.roster.staged.map s.admitSlot
  let s1 := (s.freeSlots s.roster.active).clearAssignments
  let s2 := plan.foldl State.linkSlot { s1 with roster := { active := plan, staged := [], ready := false } }
  s2.passChanges s
/-- R127: the staged assignments that a commit makes OPEN. -/
def State.openedByCommit (s : State) : Nat :=
  countOf (fun x => x.state == .assigned && !s.stagedHolds x) s.roster.staged
/-- R128: the active plan is emptied, with D1. -/
def State.emptyActive (s : State) : State :=
  let s1 := ((s.freeSlots s.roster.active).clearAssignments).setActive []
  (s1.passChanges s).report .d1 s.clock.day
/-- R17, R128: the roster's rollover: the calls are settled, then the staged plan becomes active or the active plan is emptied;
what all of it changed is passed on together, as one change. -/
def State.rollRoster (s : State) : State :=
  let s' := s.settleAll
  if s'.roster.ready then s'.commit else s'.emptyActive

end Sys2Proof.Machine
end

