-- ==== Sys2Proof/Machine/Keyed.lean ====
section
/-! DEFINITION. The settings by key: reading, ranges, what keeps an item in use, writing, restoring a record; the
geometry checks and the node table (R146, R174, R183, R186, R190). -/

namespace Sys2Proof.Machine

/-! ### Keys (R190) -/

/-- R186, R190: the setting keys: a row of R186 from 1; the counts; a field of a numbered item; a yard field. -/
inductive Key where
  | beh (row : Nat)
  | numLanes | numPoints | numCabinets | numBays | numWashes
  | laneKind (l : Nat) | laneDepth (l : Nat) | laneClass (l : Nat) | laneNode (l : Nat) | laneIndex (l : Nat)
  | lanePoint (l pos : Nat)
  | pointCabinet (p : Nat) | pointLane (p : Nat) | pointPos (p : Nat) | pointRating (p : Nat) | pointPmin (p : Nat)
  | cabinetNode (c : Nat)
  | bayKind (b : Nat) | bayNode (b : Nat)
  | washNode (l : Nat)
  | gateDir (g : Nat) | gateNode (g : Nat)
  | padCapacity | numSpots | meter | display | gateAddr | serviceAddr | energyAddr
  deriving DecidableEq, Repr

/-- R190: lane fields. -/
def laneKey (l f : Nat) : Option Key :=
  if f = 0 then some (.laneKind l) else if f = 1 then some (.laneDepth l) else if f = 2 then some (.laneClass l)
  else if f = 3 then some (.laneNode l) else if f = 4 then some (.laneIndex l)
  else if 9 ≤ f ∧ f ≤ 16 then some (.lanePoint l (f - 8)) else none
/-- R190: point fields. -/
def pointKey (p f : Nat) : Option Key :=
  if f = 0 then some (.pointCabinet p) else if f = 1 then some (.pointLane p) else if f = 2 then some (.pointPos p)
  else if f = 3 then some (.pointRating p) else if f = 4 then some (.pointPmin p) else none
/-- R190: yard fields. -/
def yardKey (f : Nat) : Option Key :=
  if f = 0 then some .padCapacity else if f = 1 then some .numSpots else if f = 2 then some .meter
  else if f = 3 then some .display else if f = 4 then some .gateAddr else if f = 5 then some .serviceAddr
  else if f = 6 then some .energyAddr else none
/-- R190: the key of a group, item and field; none names no setting. The count of a group is item 0 with field 0 alone, and
another field on item 0 is NOT-FOUND: 12.2 says "field 0" of group 1 alone, and leaves the field of the counts of groups 2 to 5
open (log entry 78). -/
def keyAt (group item field : Nat) : Option Key :=
  if group = 0 then if 1 ≤ item ∧ item ≤ 16 ∧ field = 0 then some (.beh item) else none
  else if group = 1 then
    if item = 0 then if field = 0 then some .numLanes else none
    else if item ≤ Config.maxLanes then laneKey item field else none
  else if group = 2 then
    if item = 0 then if field = 0 then some .numPoints else none
    else if item ≤ Config.maxPoints then pointKey item field else none
  else if group = 3 then
    if field ≠ 0 then none else if item = 0 then some .numCabinets
    else if item ≤ Config.maxCabinets then some (.cabinetNode item) else none
  else if group = 4 then
    if item = 0 then if field = 0 then some .numBays else none
    else if item ≤ Config.maxBays then
      if field = 0 then some (.bayKind item) else if field = 1 then some (.bayNode item) else none
    else none
  else if group = 5 then
    if field ≠ 0 then none else if item = 0 then some .numWashes
    else if item ≤ Config.maxWashes then some (.washNode item) else none
  else if group = 6 then
    if 1 ≤ item ∧ item ≤ 4 then
      if field = 0 then some (.gateDir item) else if field = 1 then some (.gateNode item) else none
    else none
  else if group = 7 then if item = 0 then yardKey field else none
  else none

/-- R186: a geometry key. -/
def Key.isGeometry : Key → Bool
  | .beh _ => false
  | _ => true

/-! ### Reading (R186) -/

/-- R186: a row of the behavioural settings. -/
def Behaviour.read (b : Behaviour) (row : Nat) : Nat :=
  match row with
  | 1 => b.moveTimeout | 2 => b.callLead | 3 => b.callTimeout | 4 => b.grace | 5 => b.margin | 6 => b.reserve
  | 7 => b.defaultReq | 8 => b.refPower | 9 => b.passLimit | 10 => b.refresh | 11 => b.fallback
  | 12 => b.contract | 13 => b.washSkip | 14 => b.corrThreshold | 15 => timeoutCode b.busTimeout
  | _ => rateCode b.linkRate

/-- R186: the value a key holds. -/
def Settings.read (st : Settings) : Key → Nat
  | .beh row => st.beh.read row
  | .numLanes => st.geo.numLanes
  | .numPoints => st.geo.numPoints
  | .numCabinets => st.geo.numCabinets
  | .numBays => st.geo.numBays
  | .numWashes => st.geo.numWashes
  | .laneKind l => laneKindCode (st.geo.lane l).kind
  | .laneDepth l => (st.geo.lane l).depth
  | .laneClass l => berthCode (st.geo.lane l).cls
  | .laneNode l => (st.geo.lane l).node
  | .laneIndex l => (st.geo.lane l).index
  | .lanePoint l pos => ((st.geo.lane l).points.get? pos).getD 0
  | .pointCabinet p => (st.geo.point p).cabinet
  | .pointLane p => (st.geo.point p).lane
  | .pointPos p => (st.geo.point p).pos
  | .pointRating p => (st.geo.point p).rating
  | .pointPmin p => (st.geo.point p).pmin
  | .cabinetNode c => st.geo.cabinetNode c
  | .bayKind b => bayKindCode (st.geo.bay b).kind
  | .bayNode b => (st.geo.bay b).node
  | .washNode l => st.geo.washNode l
  | .gateDir g => gateDirCode (st.geo.gate g).dir
  | .gateNode g => (st.geo.gate g).node
  | .padCapacity => st.geo.padCapacity
  | .numSpots => st.geo.numSpots
  | .meter => st.geo.meter
  | .display => st.geo.display
  | .gateAddr => st.geo.gateAddr
  | .serviceAddr => st.geo.serviceAddr
  | .energyAddr => st.geo.energyAddr

/-! ### Ranges (R186) -/

/-- R186: an enumerated setting's number of codes. -/
def Key.codes : Key → Option Nat
  | .beh 15 => some 2
  | .beh 16 => some 4
  | .laneKind _ | .laneClass _ | .bayKind _ => some 2
  | .gateDir _ => some 4
  | _ => none
/-- R186: a value that names no code of an enumerated setting. -/
def Key.undefinedCode (k : Key) (v : Nat) : Bool :=
  match k.codes with
  | some n => decide (n ≤ v)
  | none => false
/-- R186: the range of a row of the behavioural settings. -/
def behRange (row : Nat) : Nat × Nat :=
  match row with
  | 1 => (2, 30) | 2 => (0, 30) | 3 => (1, 30) | 4 => (0, 60) | 5 => (0, 60) | 6 => (0, 2000) | 7 => (0, 9999)
  | 8 => (10, 300) | 9 => (1, 15) | 10 => (1, 15) | 11 => (0, 10000) | 12 => (0, 10000) | 13 => (0, 240)
  | 14 => (1, 255) | 15 => (0, 1) | _ => (0, 3)
/-- R26, R39, R50, R53, R77, R132, R186: the range of a key; a minimum run power runs to its point's rating. -/
def Settings.range (st : Settings) : Key → Nat × Nat
  | .beh row => behRange row
  | .numLanes => (1, Config.maxLanes)
  | .numPoints => (0, Config.maxPoints)
  | .numCabinets => (0, Config.maxCabinets)
  | .numBays => (1, Config.maxBays)
  | .numWashes => (1, Config.maxWashes)
  | .laneKind _ | .laneClass _ | .bayKind _ => (0, 1)
  | .laneDepth _ => (1, 8)
  | .laneIndex _ => (0, 3)
  | .lanePoint _ _ => (0, Config.maxPoints)
  | .pointCabinet _ => (1, Config.maxCabinets)
  | .pointLane _ => (1, Config.maxLanes)
  | .pointPos _ => (1, 8)
  | .pointRating _ => (10, 300)
  | .pointPmin p => (1, (st.geo.point p).rating)
  | .gateDir _ => (0, 3)
  | .padCapacity => (1, 16)
  | .numSpots => (0, Config.maxSpots)
  | .laneNode _ | .cabinetNode _ | .bayNode _ | .washNode _ | .gateNode _ | .meter | .display | .gateAddr
  | .serviceAddr | .energyAddr => (1, 62)
/-- R186: a value brought into a range. -/
def clampTo (range : Nat × Nat) (v : Nat) : Nat := max range.1 (min range.2 v)

/-- The highest number of a list, 0 for none. -/
def highest (ns : List Nat) : Nat := ns.foldl max 0
/-- R23, R26, R39, R50, R53: the least value that keeps what is still in use. -/
def State.keeps (s : State) : Key → Nat
  | .numLanes => highest ((upTo 1 Config.maxLanes).filter (fun l => !(s.lane l).entries.isEmpty))
  | .laneDepth l => highest ((s.lane l).entries.map (·.pos))
  | .numBays => highest ((upTo 1 Config.maxBays).filter (fun b => (s.bay b).occupant.isSome))
  | .numWashes => highest ((upTo 1 Config.maxWashes).filter (fun l =>
      (s.wash l).occupant.isSome || !(s.wash l).queue.isEmpty))
  | .padCapacity => highest s.service.pad.keys
  | .numSpots => highest s.yard.spots.keys
  | _ => 0

/-! ### Writing (R186) -/

/-- R192: the code's value. -/
def timeoutOf (v : Nat) : BusTimeout := if v = 0 then .short else .long
/-- R192: the code's value. -/
def rateOf (v : Nat) : LinkRate :=
  if v = 0 then .r9600 else if v = 1 then .r19200 else if v = 2 then .r38400 else .r115200
/-- R192: the code's value. -/
def gateDirOf (v : Nat) : GateDir :=
  if v = 0 then .none else if v = 1 then .inward else if v = 2 then .outward else .both

/-- R186: a row of the behavioural settings takes a value. -/
def Behaviour.write (b : Behaviour) (row v : Nat) : Behaviour :=
  match row with
  | 1 => { b with moveTimeout := v } | 2 => { b with callLead := v } | 3 => { b with callTimeout := v }
  | 4 => { b with grace := v } | 5 => { b with margin := v } | 6 => { b with reserve := v }
  | 7 => { b with defaultReq := v } | 8 => { b with refPower := v } | 9 => { b with passLimit := v }
  | 10 => { b with refresh := v } | 11 => { b with fallback := v } | 12 => { b with contract := v }
  | 13 => { b with washSkip := v } | 14 => { b with corrThreshold := v }
  | 15 => { b with busTimeout := timeoutOf v } | _ => { b with linkRate := rateOf v }

/-- A lane item changed. -/
def Geometry.updLane (g : Geometry) (l : Nat) (f : LaneGeo → LaneGeo) : Geometry :=
  { g with lanes := g.lanes.set l (f (g.lane l)) }
/-- A point item changed. -/
def Geometry.updPoint (g : Geometry) (p : Nat) (f : PointGeo → PointGeo) : Geometry :=
  { g with points := g.points.set p (f (g.point p)) }
/-- A bay item changed. -/
def Geometry.updBay (g : Geometry) (b : Nat) (f : BayGeo → BayGeo) : Geometry :=
  { g with bays := g.bays.set b (f (g.bay b)) }
/-- A gate item changed. -/
def Geometry.updGate (g : Geometry) (n : Nat) (f : GateGeo → GateGeo) : Geometry :=
  { g with gates := g.gates.set n (f (g.gate n)) }

/-- R77, R186: a geometry key takes a value; a rating below the minimum run power lowers it too. -/
def Geometry.write (g : Geometry) (k : Key) (v : Nat) : Geometry :=
  match k with
  | .beh _ => g
  | .numLanes => { g with numLanes := v }
  | .numPoints => { g with numPoints := v }
  | .numCabinets => { g with numCabinets := v }
  | .numBays => { g with numBays := v }
  | .numWashes => { g with numWashes := v }
  | .laneKind l => g.updLane l (fun r => { r with kind := if v = 0 then .flow else .dead })
  | .laneDepth l => g.updLane l (fun r => { r with depth := v })
  | .laneClass l => g.updLane l (fun r => { r with cls := if v = 0 then .standard else .long })
  | .laneNode l => g.updLane l (fun r => { r with node := v })
  | .laneIndex l => g.updLane l (fun r => { r with index := v })
  | .lanePoint l pos => g.updLane l (fun r => { r with points := r.points.put? pos (nonzero v) })
  | .pointCabinet p => g.updPoint p (fun r => { r with cabinet := v })
  | .pointLane p => g.updPoint p (fun r => { r with lane := v })
  | .pointPos p => g.updPoint p (fun r => { r with pos := v })
  | .pointRating p => g.updPoint p (fun r => { r with rating := v, pmin := min r.pmin v })
  | .pointPmin p => g.updPoint p (fun r => { r with pmin := v })
  | .cabinetNode c => { g with cabinets := g.cabinets.set c v }
  | .bayKind b => g.updBay b (fun r => { r with kind := if v = 0 then .fuel else .service })
  | .bayNode b => g.updBay b (fun r => { r with node := v })
  | .washNode l => { g with washes := g.washes.set l v }
  | .gateDir n => g.updGate n (fun r => { r with dir := gateDirOf v })
  | .gateNode n => g.updGate n (fun r => { r with node := v })
  | .padCapacity => { g with padCapacity := v }
  | .numSpots => { g with numSpots := v }
  | .meter => { g with meter := v }
  | .display => { g with display := v }
  | .gateAddr => { g with gateAddr := v }
  | .serviceAddr => { g with serviceAddr := v }
  | .energyAddr => { g with energyAddr := v }

/-- R186: a key takes a value. -/
def Settings.write (st : Settings) (k : Key) (v : Nat) : Settings :=
  match k with
  | .beh row => { st with beh := st.beh.write row v }
  | k => { st with geo := st.geo.write k v }

/-- The rows numbered up to `n`. -/
def Tab.upTo {α : Type} (t : Tab α) (n : Nat) : Tab α := ⟨t.rows.filter (fun r => decide (r.1 ≤ n))⟩
/-- The records of lanes, points, bays and wash lanes that are no longer configured are dropped. -/
def State.dropItems (s : State) : State :=
  { s with
    yard := { s.yard with lanes := Tab.upTo s.yard.lanes s.geo.numLanes }
    energy := { s.energy with points := Tab.upTo s.energy.points s.geo.numPoints }
    service := { s.service with
      bays := Tab.upTo s.service.bays s.geo.numBays
      washes := Tab.upTo s.service.washes s.geo.numWashes } }

/-- R23, R26, R39, R50, R53, R186: a key is written, kept at what is in use. -/
def State.writeKey (s : State) (k : Key) (v : Nat) : State :=
  State.dropItems { s with settings := s.settings.write k (max v (s.keeps k)) }
/-- R84, R96, R98: what the blocks do at once when settings have changed since `before`: the last fresh value is
clamped to the contract maximum, the open sessions are re-targeted, the effective budget is formed again. -/
def State.settleSettings (s before : State) : State :=
  let s1 : State := { s with energy := { s.energy with budget := { s.energy.budget with
    last := s.energy.budget.last.map (fun x => (min x.1 s.beh.contract, x.2)) } } }
  State.reformBudget before s1.retargetAll

/-! ### Restoring records of the working copy (R170, R174) -/

/-- R170: the keys of a lane item. -/
def laneKeys (l : Nat) : List Key :=
  [.laneKind l, .laneDepth l, .laneClass l, .laneNode l, .laneIndex l] ++ (upTo 1 8).map (fun p => .lanePoint l p)
/-- R170: the keys of a point item. -/
def pointKeys (p : Nat) : List Key := [.pointCabinet p, .pointLane p, .pointPos p, .pointRating p, .pointPmin p]
/-- R170: the keys of the settings held at a place of bank 35. -/
def keysAt (place : Nat) : List Key :=
  if place = 0 then (upTo 1 16).map Key.beh
  else if place = 1 then
    [.padCapacity, .numSpots, .meter, .display, .gateAddr, .serviceAddr, .energyAddr] ++
    (upTo 1 4).flatMap (fun g => [.gateDir g, .gateNode g]) ++
    [.numLanes, .numPoints, .numCabinets, .numBays, .numWashes]
  else if place = 2 then
    (upTo 1 Config.maxBays).flatMap (fun b => [.bayKind b, .bayNode b]) ++ (upTo 1 Config.maxWashes).map Key.washNode
  else if place = 3 then (upTo 1 Config.maxCabinets).map Key.cabinetNode
  else if place ≤ 15 then (upTo (8 * (place - 4) + 1) (8 * (place - 4) + 8)).flatMap pointKeys
  else if place ≤ 27 then (upTo (4 * (place - 16) + 1) (4 * (place - 16) + 4)).flatMap laneKeys
  else []
/-- R174: the settings a restored record takes its values from. -/
def State.restoreSource (s : State) : Settings := if s.store.valid then s.store.copy else .default
/-- R87, R99, R174: sessions at points that a restored count drops end first, and the allocation is recomputed. -/
def State.endDropped (s : State) (n : Nat) : State :=
  let ps := s.pointNums.filter (fun p => decide (n < p))
  if ps.any (fun p => (s.session p).isSome) then (ps.foldl State.dropSession s).recompute else s
/-- R174: one key restored. -/
def State.restoreKey (src : Settings) (s : State) (k : Key) : State :=
  let s' := match k with
    | .numPoints => s.endDropped (src.read k)
    | _ => s
  s'.writeKey k (src.read k)
/-- R174: keys restored; a new link rate is in force at once on an idle line. -/
def State.restoreKeys (s : State) (ks : List Key) : State :=
  let s1 := (ks.foldl (State.restoreKey s.restoreSource) s).settleSettings s
  match s1.link.service with
  | .idle => { s1 with link := { s1.link with rate := s1.beh.linkRate } }
  | .inService _ _ | .sendingBusy _ => s1

/-! ### The geometry checks and the node table (R146, R183) -/

/-- The list without repeats, rising. -/
def distinct (ns : List Nat) : List Nat := ns.foldr (fun n acc => if acc.contains n then acc else n :: acc) []
/-- R146: the configured nodes, a lane node once. -/
def Geometry.nodeList (g : Geometry) : List Nat :=
  ((upTo 1 4).filter (fun n => (g.gate n).dir != .none)).map (fun n => (g.gate n).node) ++
  (upTo 1 g.numBays).map (fun b => (g.bay b).node) ++ (upTo 1 g.numWashes).map g.washNode ++
  distinct ((upTo 1 g.numLanes).map (fun l => (g.lane l).node)) ++ (upTo 1 g.numCabinets).map g.cabinetNode ++
  [g.meter, g.display]
/-- R183: no number twice. -/
def allDistinct : List Nat → Bool
  | [] => true
  | n :: ns => !ns.contains n && allDistinct ns
/-- R183: Positions. -/
def Geometry.positionsOk (g : Geometry) : Bool :=
  decide (((upTo 1 g.numLanes).map (fun l => (g.lane l).depth)).foldl (· + ·) 0 ≤ 320)
/-- R183: Points. -/
def Geometry.pointsOk (g : Geometry) : Bool :=
  let ps := (upTo 1 g.numPoints).map g.point
  ps.all (fun p => decide (1 ≤ p.lane ∧ p.lane ≤ g.numLanes ∧ 1 ≤ p.pos ∧ p.pos ≤ (g.lane p.lane).depth ∧
    1 ≤ p.cabinet ∧ p.cabinet ≤ g.numCabinets)) &&
  allDistinct (ps.map (fun p => p.lane * 16 + p.pos))
/-- R183: Cabinets. -/
def Geometry.cabinetsOk (g : Geometry) : Bool :=
  (upTo 1 g.numCabinets).all (fun c =>
    decide (countOf (fun p => (g.point p).cabinet == c) (upTo 1 g.numPoints) ≤ 8))
/-- R183: Addresses. -/
def Geometry.addressesOk (g : Geometry) : Bool :=
  let ns := [g.gateAddr, g.serviceAddr, g.energyAddr] ++ g.nodeList
  ns.all (fun n => decide (1 ≤ n ∧ n ≤ 62)) && allDistinct ns
/-- R183: the geometry checks. -/
def Geometry.ok (g : Geometry) : Bool := g.positionsOk && g.pointsOk && g.cabinetsOk && g.addressesOk

/-- R146: the node table rebuilt from the geometry: addresses that remain keep their entries. -/
def State.rebuildNodes (s : State) : State :=
  { s with bus := { s.bus with
    nodes := s.geo.nodeList.foldl (fun t a => t.set a (s.bus.nodes.getD a .blank)) .empty } }

end Sys2Proof.Machine
end

