-- ==== Sys2Proof/Machine/Modes.lean ====
section
/-! DEFINITION. Mode changes: the entry to SAFE, the entry to CENSUS and CONFIGURE, the entry to RUNNING, and the
resets (R167, R177 to R182). -/

namespace Sys2Proof.Machine

/-- R177: the mode changes, with its YARD STATE. -/
def State.setMode (s : State) (m : PartMode) : State := State.yardState { s with mode := m }

/-- R180: the geometry settings. -/
def geometryKeys : List Key := (upTo 1 27).flatMap keysAt
/-- R180: SAFE entered from CONFIGURE: a geometry that fails its checks is reloaded, the node table rebuilt. -/
def State.leaveConfigureForSafe (s : State) : State :=
  State.rebuildNodes (if s.geo.ok then s else s.restoreKeys geometryKeys)
/-- R167, R180: SAFE is entered, from any other mode. The YARD STATE of the change is queued before a geometry that fails is
reloaded, with the SERVICE address as it stood before as its source; R180 does not order the two (log entry 77). -/
def State.enterSafe (s : State) : State :=
  if s.mode = .safe then s
  else
    let s1 := s.setMode .safe
    let s2 := if s.mode = .configure then s1.leaveConfigureForSafe else s1
    State.reformBudget s s2
/-- R165 to R167: a FATAL fault is reported. -/
def State.reportFatal (s : State) (c : FaultCode) (subject : Nat) : State := (s.report c subject).enterSafe

/-- R147: entry to CENSUS sets the poll-pending mark of every configured node. -/
def State.pollAll (s : State) : State :=
  State.pollFill { s with bus := { s.bus with nodes := s.bus.nodes.mapRows (fun _ r => { r with poll := true }) } }
/-- R179: what the entry to CENSUS or CONFIGURE, as `m`, ends and abandons, and the poll of the nodes. -/
def State.settleEntry (s : State) (m : PartMode) : State :=
  let s' := s.endAllSessions.abandonLine.withdrawAll.abandonMovements
  if m = .census then s'.pollAll else s'

/-- R182: a lane at FINISH CENSUS. -/
def State.reconcileLane (s : State) (l : Nat) : State :=
  let r := s.lane l
  if r.image = positionsOf r.entries then
    if r.closing then s.shut l else s.updLane l (fun x => { x with state := .opened })
  else s.updLane l (fun x => { x with state := .unverified })
/-- R182: what the entry to RUNNING starts, from the state `before` it: the bay sweep and the retry, which RUNNING alone makes,
the opening checks, the effective budget. -/
def State.startRunning (s before : State) : State :=
  let s' := if s.mode = .running then s.sweep.retry else s
  State.reformBudget before (s'.pointNums.foldl State.openingCheck s')

/-! ### Resets (R178 and the rules it gathers) -/

/-- R169, R175, R176: the Fault Unit after a reset. -/
def FaultUnit.reset (f : FaultUnit) (powerOn : Bool) : FaultUnit :=
  let spare := match f.spare with
    | .serving b => if powerOn then Spare.free else .serving b
    | .free | .copying _ => .free
  { FaultUnit.blank with
    capture := if powerOn then none else f.capture
    summary := if powerOn then 0#32 else f.summary
    count := if powerOn then 0 else f.count
    spare := spare }

/-- R178: every block set afresh, with the settings loaded; start-up begins (R188). The commands that wait stand. -/
def State.resetAll (s : State) (powerOn : Bool) : State :=
  let st := if s.store.valid then s.store.copy else Settings.default
  let s1 : State :=
    { mode := if s.store.valid then .census else .configure
      startup := true
      clock := .blank
      settings := st
      store := { s.store with snapshot := none }
      fleet := .blank
      service := .blank
      yard := .blank
      energy := .blank
      roster := .blank
      bus := .blank
      link := .blank st.beh.linkRate
      notices := .blank
      faults := s.faults.reset powerOn
      pending := s.pending }
  let s2 := (if s.store.valid then s1 else s1.report .c1 0).rebuildNodes.yardState
  if s.store.valid then s2.pollAll else s2

end Sys2Proof.Machine
end

