-- ==== Sys2Proof/Machine/Reads.lean ====
section
/-! DEFINITION. The read sets of R171: which records the blocks read in an event, so that each is checked, and what the
check finds dealt with, before the event acts on it (log entry 31). -/

namespace Sys2Proof.Machine

/-! ### Settings (R170, bank 35) -/

/-- R170: the behavioural settings, and the yard settings with the gates. -/
def partReads : List Nat := [settingsRecord 0, settingsRecord 1]
/-- R170: the bays and wash lanes. -/
def stationSettings : Nat := settingsRecord 2
/-- R170: the cabinets. -/
def cabinetSettings : Nat := settingsRecord 3
/-- R170: the place that holds a charge point's settings. -/
def pointSettings (p : Nat) : Nat := settingsRecord (4 + (p - 1) / 8)
/-- R170: the place that holds a lane's settings. -/
def laneSettings (l : Nat) : Nat := settingsRecord (16 + (l - 1) / 4)
/-- R87 to R98: what the allocation reads beside the sessions: the reserve and the fallback, the number of points and the
part's address, and the cabinets that SETPOINTs go to. -/
def allocationReads : List Nat := partReads ++ [cabinetSettings]
/-- R170: every place that holds settings. -/
def settingsReads : List Nat := (upTo 0 27).map settingsRecord
/-- R170, R183: the places that hold the geometry. -/
def geometryReads : List Nat := (upTo 1 27).map settingsRecord

/-! ### Vehicles, lanes, sessions, slots -/

/-- R67: a vehicle located in a lane. -/
def Vehicle.inLane (r : Vehicle) (l : Nat) : Bool :=
  match r.loc with
  | .lane k _ => k == l
  | _ => false

/-- The record of the active slot a vehicle is assigned to. -/
def State.slotReads (s : State) (v : Nat) : List Nat :=
  (((s.vehicle v).assignment.bind s.slot).map (·.record)).toList
/-- A vehicle's record and that of its active slot. -/
def State.vehicleReads (s : State) (v : Nat) : List Nat := v :: s.slotReads v
/-- A lane's record and the vehicles of its occupancy list. -/
def State.laneReads (s : State) (l : Nat) : List Nat := laneRecord l :: (s.lane l).entries.map (·.vehicle)
/-- Every lane: what placement and a recount go through (R17, R55 to R57). -/
def State.yardReads (s : State) : List Nat := settingsRecord 1 :: s.laneNums.flatMap s.laneReads
/-- R69, R74: the record of the lane a vehicle is PARKED in. -/
def State.ownLaneReads (s : State) (v : Nat) : List Nat :=
  match (s.vehicle v).state, (s.vehicle v).loc with
  | .parked, .lane l _ => [laneRecord l]
  | _, _ => []
/-- The lanes that a vehicle is located in or has an entry in. -/
def State.berthReads (s : State) (v : Nat) : List Nat :=
  (s.laneNums.filter (fun l => (s.vehicle v).inLane l || (s.lane l).entries.any (fun e => e.vehicle == v))).flatMap s.laneReads
/-- The record of a vehicle's open session. -/
def State.ownSessionReads (s : State) (v : Nat) : List Nat := ((s.sessionPoint v).map sessionRecord).toList
/-- The session at a point with its vehicle and its point's settings. -/
def State.sessionReads (s : State) (p : Nat) : List Nat :=
  match s.session p with
  | some x => sessionRecord p :: pointSettings p :: s.vehicleReads x.vehicle
  | none => []
/-- R87 to R94: what the allocation reads for a point: its session, or where a lost SETPOINT of 0 is due its settings. -/
def State.shareReads (s : State) (p : Nat) : List Nat :=
  match s.session p with
  | some _ => s.sessionReads p
  | none => if (s.point p).owesZero then [pointSettings p] else []
/-- What the allocation goes through (R87 to R94); nothing where no point takes part. -/
def State.energyReads (s : State) : List Nat :=
  match s.pointNums.flatMap s.shareReads with
  | [] => []
  | ns => allocationReads ++ ns
/-- R81, R100: the settings of a point, the lane it is bound to, and the vehicle there. -/
def State.boundReads (p : Nat) (s : State) : List Nat :=
  pointSettings p :: laneRecord (s.geo.point p).lane :: ((s.boundEntry p).map (·.vehicle)).toList
/-- R81, R83: the opening check at a point: the vehicle that stands there with its slot, and the allocation that it
triggers. -/
def State.openingReads (p : Nat) (s : State) : List Nat :=
  allocationReads ++ s.boundReads p ++ (s.parkedAt p).toList.flatMap s.slotReads ++ s.energyReads
/-- R93: the waiting grade of a vehicle that is PARKED in a lane: the lane, and where a point is bound to its position,
the settings and the slot that the grade is formed from. -/
def State.gradeReads (s : State) (v : Nat) : List Nat :=
  match (s.vehicle v).state, (s.vehicle v).loc with
  | .parked, .lane l pos =>
    laneRecord l :: (match s.pointAt l pos with
      | some p => settingsRecord 0 :: pointSettings p :: s.slotReads v
      | none => [])
  | _, _ => []
/-- The records of a plan's slots, with the vehicles they hold. -/
def planReads (xs : List Slot) : List Nat := xs.flatMap (fun x => x.record :: (x.assigned.map (·.1)).toList)

/-! ### What an operation of several blocks reads -/

/-- R54 to R58: placement of a vehicle from its station, made in RUNNING alone. -/
def State.placementReads (s : State) (v : Nat) : List Nat :=
  if s.mode = .running then partReads ++ stationSettings :: s.vehicleReads v ++ s.yardReads else []
/-- R43, R48: a STRANDED vehicle leaves its wash lane, which directs the next of its queue in: the vehicles of the queue. -/
def State.washLineReads (s : State) (v : Nat) : List Nat :=
  match (s.vehicle v).loc with
  | .wash l => (s.wash l).queue.map (·.vehicle)
  | _ => []
/-- R60: a retry, with the wash lanes that it frees. -/
def State.retryReads (s : State) : List Nat :=
  s.yard.stranded.flatMap (fun v => s.placementReads v ++ (if s.mode = .running then s.washLineReads v else []))
/-- R20, R23: the vehicles on the pad and in the gate queues. -/
def State.waitingVehicles (s : State) : List Nat :=
  s.service.pad.rows.map (fun r => r.2.vehicle) ++ (s.service.gate1 ++ s.service.gate2).map (·.vehicle)
/-- R24, R34 to R38: a turn, with the admissions and the turns that follow from it, made in RUNNING alone. -/
def State.padReads (s : State) : List Nat :=
  if s.mode = .running then
    partReads ++ stationSettings :: (if s.service.pad.rows.isEmpty then [] else s.waitingVehicles.flatMap s.vehicleReads)
  else []
/-- R106: whether a slot is due is judged: the clock is set and it is OPEN or ASSIGNED. -/
def State.judgesDue (s : State) (x : Slot) : Bool := s.clock.isSet && (x.state == .opened || x.state == .assigned)
/-- R106 to R113: an attempt pass: the active slots, with the lead time that an OPEN or ASSIGNED one is held against, and where
one is due, the vehicles that R111 chooses among, and the sessions that a call ends. -/
def State.passReads (s : State) : List Nat :=
  if s.mode = .running then
    s.roster.active.map (·.record) ++ (if s.roster.active.any s.judgesDue then [settingsRecord 0] else []) ++
    (if s.roster.active.any s.due then partReads ++ s.fleet.vehicles.keys ++ s.yardReads ++ s.energyReads else [])
  else []
/-- R96, R97: a refresh of the budget, or its expiry. -/
def State.budgetReads (s : State) : List Nat := partReads ++ s.energyReads
/-- R174, R180: the entry to SAFE; from CONFIGURE the geometry is checked, and where it fails is reloaded within what the
lanes hold. -/
def State.safeReads (s : State) : List Nat :=
  s.budgetReads ++ (if s.mode = .configure then
    geometryReads ++ (if s.geo.ok then [] else s.laneNums.map laneRecord) else [])
/-- R81, R83, R93: the arrival of a vehicle at a position: the vehicle, and where a point is bound to the position, what the
opening check and the waiting grade read there, with the slot that gives the requirement. -/
def State.arrivalReads (s : State) (v l pos : Nat) : List Nat :=
  v :: (match s.pointAt l pos with
    | some p => s.openingReads p ++ s.slotReads v
    | none => [])
/-- R16, R17: a vehicle's key passed on: the number of lanes, its slot, the lane it stands in, its waiting grade, the allocation
where it has a session. -/
def State.keyReads (s : State) (v : Nat) : List Nat :=
  settingsRecord 1 :: s.vehicleReads v ++ s.berthReads v ++ s.gradeReads v ++ (if (s.sessionPoint v).isSome then s.energyReads else [])
/-- R110: a call of a DEPARTING vehicle withdrawn: its slot, its lane, and the opening check at the point where it stands
again. -/
def State.callReads (s : State) (v : Nat) : List Nat :=
  if (s.vehicle v).state = .departing then
    partReads ++ s.vehicleReads v ++ s.berthReads v ++ (match (s.vehicle v).loc with
      | .lane l pos => (s.pointAt l pos).toList.flatMap (fun p => s.openingReads p)
      | _ => [])
  else []
/-- R25, R43, R48: the vehicles that stand with a vehicle in the service line, and what directs the next of them. -/
def State.lineReads (s : State) (v : Nat) : List Nat :=
  match (s.vehicle v).loc with
  | .gateQueue g _ => (s.gateQueue g).map (·.vehicle)
  | .pad _ | .bay _ => s.padReads
  | .washQueue l _ | .wash l => partReads ++ stationSettings :: (s.wash l).queue.map (·.vehicle)
  | .absent | .lane _ _ | .overflow _ | .apron => []
/-- R75, R109: a move or a call begins: the timeouts and the addresses, and the sessions where the vehicle has one. -/
def State.startReads (s : State) (v : Nat) : List Nat :=
  partReads ++ (if (s.sessionPoint v).isSome then s.energyReads else [])
/-- The vehicles that hold an active assignment. -/
def State.assignedVehicles (s : State) : List Nat :=
  (s.fleet.vehicles.rows.filter (fun r => r.2.assignment.isSome)).map (·.1)
/-- R127, R128: a commit or a rollover: both plans with their vehicles, the calls that the rollover withdraws, the vehicles
that lose an assignment or gain one, and what the changed keys are passed on to. -/
def State.rollReads (s : State) : List Nat :=
  let vs := s.assignedVehicles ++ (s.roster.staged.filterMap (·.assigned)).map (·.1)
  partReads ++ planReads s.roster.active ++ planReads s.roster.staged ++ vs ++ s.yardReads ++ vs.flatMap s.callReads ++
  vs.flatMap s.gradeReads ++ s.energyReads
/-- R43: the vehicles of the wash queues. -/
def State.washQueued (s : State) : List Nat := s.washNums.flatMap (fun l => (s.wash l).queue.map (·.vehicle))
/-- R179: the entry to CENSUS or CONFIGURE: the sessions that end, the calls that are withdrawn, the movements that are
abandoned in the service line, with the vehicles that stand in a wash queue with them, and in the yard. -/
def State.censusReads (s : State) : List Nat :=
  let called := s.roster.active.filter (fun x => x.state == .called)
  partReads ++ s.energyReads ++ planReads called ++
  ((called.filterMap (·.assigned)).map (·.1)).flatMap (fun v => s.callReads v ++ s.keyReads v) ++ s.yardReads ++
  s.inState .toBay ++ s.inState .toWash ++ s.inState .toBerth ++ s.washQueued

end Sys2Proof.Machine
end

