-- ==== Sys2Proof/Machine/Patrol.lean ====
section
/-! DEFINITION. The check of a record, what damage does, the patrol pass, the read checks, wear and the spare (R18, R130,
R170 to R176). -/

namespace Sys2Proof.Machine

/-! ### Wear (R175) -/

/-- R175: a bank's wear. -/
def State.wear (s : State) (bank : Nat) : Wear := s.faults.wear.getD bank .blank
/-- R175: a bank's wear becomes `w`. -/
def State.setWear (s : State) (bank : Nat) (w : Wear) : State :=
  { s with faults := { s.faults with wear := s.faults.wear.set bank w } }
/-- R175: a bank has become worn: M3 and a sparing copy when the spare is free, else M4. -/
def State.wornOut (s : State) (bank : Nat) : State :=
  match s.faults.spare with
  | .free => State.report { s with faults := { s.faults with spare := .copying bank } } .m3 bank
  | .copying _ | .serving _ => s.report .m4 bank
/-- R175: a correction counts in its bank. -/
def State.countCorrection (s : State) (bank : Nat) : State :=
  let w := s.wear bank
  let n := min 255 (w.count + 1)
  if s.beh.corrThreshold ≤ n ∧ w.worn = false then (s.setWear bank { count := n, worn := true }).wornOut bank
  else s.setWear bank { w with count := n }

/-! ### What damage does (R18, R130, R172 to R174) -/

/-- R18: the fields a damaged vehicle record now holds; fleet number and tag stand in the maps. -/
def Vehicle.left (r : Vehicle) (h : HeldFields) : Vehicle :=
  { r with body := h.body, drive := h.drive, capacity := h.capacity, soe := h.soe, acceptance := h.acceptance,
           washInterval := h.washInterval, lastWash := h.lastWash, hold := h.hold, passOver := h.passOver }
/-- R18: a damaged record's fields are read as it now holds them. -/
def State.leaveFields (s : State) (n : Nat) (left : Option HeldFields) : State :=
  match left with
  | some h => if n < 320 then s.updVehicle n (fun r => r.left h) else s
  | none => s
/-- R18, R172: a vehicle record is damaged. A waiting grade at its point stays as it was: R93 sets it for an undamaged
vehicle and does not name damage among what clears it (log entry 67). -/
def State.damageVehicle (s : State) (v : Nat) : State :=
  let s1 := match s.sessionPoint v with
    | some p => s.endSession p
    | none => s
  s1.withdrawFrom v
/-- R130: the slot of the active plan is damaged. -/
def State.damageActive (s : State) (x : Slot) : State :=
  match x.call, x.assigned with
  | some c, some (v, _) =>
    if (s.vehicle v).loc = .apron then s.finishUnconfirmed x.num v .cancelled
    else
      let s1 := s.withdrawStanding x.num v c
      (((s1.updSlot x.num (fun y => y.finish .cancelled)).setAssignment v none)).passOn [v]
  | none, some (v, _) => ((s.updSlot x.num (fun y => y.finish .cancelled)).setAssignment v none).passOn [v]
  | _, none => s.updSlot x.num (fun y => y.finish .cancelled)
/-- R130, R172: the slot record of that number is damaged. -/
def State.damageSlot (s : State) (record : Nat) : State :=
  match s.roster.active.find? (fun x => x.record == record) with
  | some x => s.damageActive x
  | none => s.setStaged (s.roster.staged.map (fun x => if x.record = record then x.finish .cancelled else x))
/-- R173: the entry a rebuilt lane gives a vehicle. -/
def State.rebuiltEntry (s : State) (l : Nat) (r : Nat × Vehicle) : Option Entry :=
  match r.2.loc with
  | .lane k pos =>
    if k = l then
      match r.2.state with
      | .parked => some { vehicle := r.1, pos := pos, mark := .settled }
      | .departing => some { vehicle := r.1, pos := pos, mark := .leavingCall }
      | .toBerth => some { vehicle := r.1, pos := pos, mark := .arriving s.moveDeadline }
      | _ => none
    else none
  | _ => none
/-- R173: a damaged lane record is rebuilt. -/
def State.rebuildLane (s : State) (l : Nat) : State :=
  let es := (s.fleet.vehicles.rows.filterMap (s.rebuiltEntry l)).foldr insertEntry []
  let s1 := s.updLane l (fun r =>
    { r with state := .unverified, closing := true, entries := es, image := positionsOf es })
  (s1.recount l).raise .sensorMismatch
/-- R172: a session record is damaged: it ends, and its point is checked again. -/
def State.damageSession (s : State) (p : Nat) : State := (s.endSession p).openingCheck p
/-- R174: a record of the settings is damaged: restored, then M5. -/
def State.damageSettings (s : State) (place : Nat) : State :=
  ((s.restoreKeys (keysAt place)).unmark (settingsRecord place)).reportFatal .m5 (settingsRecord place)

/-- R170: whether a record is in use. -/
def State.inUse (s : State) (n : Nat) : Bool :=
  if n < 320 then (s.vehicle? n).isSome
  else if n < 960 then (s.roster.active ++ s.roster.staged).any (fun x => x.record == n)
  else if n < 1024 then decide (n - 960 + 1 ≤ s.geo.numLanes)
  else if n < 1120 then (s.session (n - 1024 + 1)).isSome
  else decide (n < 1148)
/-- R171, R172: what the owning store reads as it acts on a damaged record: a vehicle's session and call, the vehicle a slot
holds, the Fleet Table that a lane is rebuilt from, the sessions, what bounds a restored setting. -/
def State.damageReads (s : State) (n : Nat) : List Nat :=
  if n < 320 then s.callReads n ++ (if (s.sessionPoint n).isSome then s.energyReads else [])
  else if n < 960 then
    match s.roster.active.find? (fun x => x.record == n) with
    | some x => (x.assigned.map (·.1)).toList.flatMap (fun v => s.keyReads v ++ s.callReads v)
    | none => []
  else if n < 1024 then
    settingsRecord 0 :: laneSettings (n - 960 + 1) :: s.fleet.vehicles.keys
  else if n < 1120 then s.openingReads (n - 1024 + 1)
  else
    (if n = settingsRecord 1 ∨ settingsRecord 16 ≤ n then s.laneNums.map laneRecord else []) ++ s.safeReads
/-- R172: the owning store acts on a record that has been marked damaged. -/
def State.actOnDamage (s : State) (n : Nat) : State :=
  if n < 320 then s.damageVehicle n
  else if n < 960 then s.damageSlot n
  else if n < 1024 then (s.rebuildLane (n - 960 + 1)).unmark n
  else if n < 1120 then s.damageSession (n - 1024 + 1)
  else s.damageSettings (n - 1120)

/-! ### Checks (R171) -/

/-- R171: a record is checked: a single error is corrected with M1, a double error reported M2 and dealt with. What is
read to count the correction, or to deal with the damage, is checked in its turn; `fuel` bounds those checks within a
check, each of which has taken one error. -/
def State.checkWith : Nat → State → Nat → State
  | 0, s, _ => s
  | fuel + 1, s, n =>
    if s.marked n then s
    else
      match s.faults.errors.find? (fun e => e.record == n) with
      | none => s
      | some e =>
        let s1 := s.freshen n
        match e.kind with
        | .single => ((State.checkWith fuel (s1.report .m1 n) (settingsRecord 0))).countCorrection (n / 32)
        | .double left =>
          if s1.inUse n then
            let s2 := ((s1.mark n).report .m2 n).leaveFields n left
            ((s2.damageReads n).foldl (fun t m => State.checkWith fuel t m) s2).actOnDamage n
          else s1.report .m2 n
/-- R171: a record is checked as it is read. -/
def State.checkRecord (s : State) (n : Nat) : State := State.checkWith s.faults.errors.length s n
/-- R171: records checked in turn. -/
def State.checkRecords (s : State) (ns : List Nat) : State := ns.foldl State.checkRecord s
/-- R171: the records that a read set names are checked. -/
def State.reading (s : State) (reads : State → List Nat) : State := s.checkRecords (reads s)
/-- R171: the patrol pass, in record order. -/
def State.patrol (s : State) : State := s.checkRecords (s.faults.errors.map (·.record))
/-- R176: the records of a bank, as the copy checks them. -/
def State.checkBank (s : State) (bank : Nat) : State :=
  s.checkRecords ((s.faults.errors.map (·.record)).filter (fun n => n / 32 == bank))

/-- R170: an error in a record that already has one. R170 does not say what the two make: the record can no longer be
corrected (log entry 28). -/
def worsened (old new : ErrKind) : ErrKind :=
  match old, new with
  | _, .double left => .double left
  | .double left, .single => .double left
  | .single, .single => .double none
/-- R170: an error arises in a stored record. -/
def addErrorTo (e : MemError) : List MemError → List MemError
  | [] => [e]
  | x :: xs =>
    if e.record < x.record then e :: x :: xs
    else if e.record = x.record then { x with kind := worsened x.kind e.kind } :: xs
    else x :: addErrorTo e xs
/-- R170: errors arise in the records of banks 0 to 35. -/
def State.addErrors (s : State) (es : List MemError) : State :=
  { s with faults := { s.faults with errors := (es.filter MemError.inBanks).foldl (fun acc e => addErrorTo e acc)
                                                 s.faults.errors } }

end Sys2Proof.Machine
end

