-- ==== Sys2Proof/Machine/Clockwork.lean ====
section
/-! DEFINITION. The yard clock: the minute event, the rollover, the wrap of the day number (R184, R185). -/

namespace Sys2Proof.Machine

/-! ### The wrap (R184) -/

/-- R184: what held times are reduced by. -/
def wrapMinutes : Nat := Config.dayWrap * Config.dayMinutes
/-- R184: an arrival time reduced. -/
def Waiting.wrapped (w : Waiting) : Waiting := { w with arrival := w.arrival - wrapMinutes }
/-- R184: the deadline of a mark reduced. -/
def Mark.wrapped : Mark → Mark
  | .arriving d => .arriving (d - wrapMinutes)
  | .leavingMove d ended => .leavingMove (d - wrapMinutes) ended
  | .settled => .settled
  | .leavingCall => .leavingCall
  | .leavingExit => .leavingExit
/-- R184: the deadline of a reservation reduced. -/
def Spot.wrapped : Spot → Spot
  | .reserved v d => .reserved v (d - wrapMinutes)
  | .held v => .held v
/-- R184: a call deadline reduced; the time of call is kept. -/
def Slot.wrapped (x : Slot) : Slot :=
  { x with call := x.call.map (fun c => { c with deadline := c.deadline - wrapMinutes }) }
/-- R184: every deadline and arrival time held is reduced; one that would fall below 0 becomes 0. -/
def State.wrapTimes (s : State) : State :=
  { s with
    service := { s.service with
      gate1 := s.service.gate1.map Waiting.wrapped
      gate2 := s.service.gate2.map Waiting.wrapped
      pad := s.service.pad.mapRows (fun _ w => w.wrapped)
      bays := s.service.bays.mapRows (fun _ b => { b with deadline := b.deadline.map (· - wrapMinutes) })
      washes := s.service.washes.mapRows (fun _ w =>
        { w with queue := w.queue.map (fun e => { e with directed := e.directed.map (· - wrapMinutes) }) }) }
    yard := { s.yard with
      lanes := s.yard.lanes.mapRows (fun _ l =>
        { l with entries := l.entries.map (fun e => { e with mark := e.mark.wrapped }) })
      spots := s.yard.spots.mapRows (fun _ x => x.wrapped) }
    energy := { s.energy with
      budget := { s.energy.budget with deadline := s.energy.budget.deadline.map (· - wrapMinutes) } }
    roster := { s.roster with active := s.roster.active.map Slot.wrapped } }

/-! ### Rollover (R128, R175, R184) -/

/-- R175: at rollover every count becomes 0 and every worn mark clears. -/
def State.resetWear (s : State) : State := { s with faults := { s.faults with wear := .empty } }
/-- R171, R184: what the rollover is handed to, the plans checked as they are read. -/
def State.rollBlocks (s : State) : State := (s.reading State.rollReads).rollRoster.resetWear
/-- R184: the clock passes to minute 0 of the next day. -/
def State.nextDay (s : State) : State :=
  let day := s.clock.day + 1
  let c := { s.clock with minute := 0, seconds := 0 }
  if day = Config.dayWrap then State.wrapTimes { s with clock := { c with day := 0 } }
  else { s with clock := { c with day := day } }
/-- R184: the rollover. -/
def State.rollOver (s : State) : State := s.nextDay.rollBlocks

/-! ### The minute event (R184) -/

/-- R32: the bays in the minute event. -/
def State.minuteBay (s : State) (b : Nat) : State := if s.bayDue b then s.expireBay b else s
/-- R43: the wash lanes in the minute event. -/
def State.minuteWash (s : State) (l : Nat) : State := if s.washDue l then s.expireWash l else s
/-- R60, R64: one expiry of a lane or overflow movement, which triggers a retry. -/
def State.minuteMove (s : State) (m : Movement) : State := if s.movementDue m then (s.expireMovement m).retry else s
/-- R97: a FRESH budget at its deadline becomes STALE; the allocation is still to run. -/
def State.expireBudget (s : State) : State :=
  if s.energy.budget.fresh && s.energy.budget.deadline.any s.reached then
    State.raise
      (State.report { s with energy := { s.energy with budget := { s.energy.budget with fresh := false } } } .e2 0)
      .budgetFallback
  else s
/-- R118: the CALLED slots that time out. R118 does not order those that time out at one minute event, which shows in the order
of their CANCEL CALLs and in which L5 is captured: they are taken in plan order (log entry 11). -/
def State.dueCalls (s : State) : List Nat := (s.roster.active.filter s.callDue).map (·.num)
/-- R147: a cabinet node. -/
def State.isCabinet (s : State) (a : Nat) : Bool :=
  (upTo 1 s.geo.numCabinets).any (fun c => s.geo.cabinetNode c == a)
/-- R147: the marks in the minute event, in RUNNING and SAFE. -/
def State.minutePolls (s : State) : State :=
  if s.mode.charges then
    State.pollFill { s with bus := { s.bus with nodes := s.bus.nodes.mapRows (fun a r =>
      { r with poll := r.poll || (s.isCabinet a && !r.heard), heard := false }) } }
  else s
/-- R171, R184: what the minute event is handed to. The patrol comes first, so every record is checked before a block
reads it in this event; the calls that time out come before the pass that does not attempt their slots (R106), though
R184's list names the pass first (log entry 11). -/
def State.minuteBlocks (s : State) : State :=
  let s0 := s.patrol
  let s1 := s0.bayNums.foldl State.minuteBay s0
  let s2 := s1.washNums.foldl State.minuteWash s1
  let s3 := s2.dueMovements.foldl State.minuteMove s2
  let s4 := s3.startDeadline.expireBudget.recompute
  let late := s4.dueCalls
  let s5 := late.foldl State.timeoutCall s4
  ((s5.attemptPass late).graceTests).minutePolls
/-- R184: the minute advances by one, with the rollover where the day ends; nothing happens while the clock is
unset. -/
def State.minutePasses (s : State) : State :=
  if s.clock.isSet = false then s
  else if s.clock.minuteOwed then State.minuteBlocks { s with clock := { s.clock with minuteOwed := false } }
  else if s.clock.minute = Config.dayMinutes - 1 then s.rollOver.minuteBlocks
  else State.minuteBlocks { s with clock := { s.clock with minute := s.clock.minute + 1, seconds := 0 } }
/-- R184: the timebase counts a second while the clock is set; the sixtieth is a minute event. -/
def State.tick (s : State) : State :=
  if s.clock.isSet = false then s
  else if s.clock.seconds + 1 < 60 then { s with clock := { s.clock with seconds := s.clock.seconds + 1 } }
  else State.minutePasses { s with clock := { s.clock with seconds := 0 } }

/-- R185: the clock is set. -/
def State.setClockTo (s : State) (day minute : Nat) : State :=
  let old := s.clock
  let s1 : State := { s with clock := { isSet := true, day := day, minute := minute, seconds := 0, minuteOwed := false } }
  let s2 :=
    if old.isSet = false then s1
    else if old.day < day then s1.rollBlocks
    else if day + 32768 ≤ old.day then s1.wrapTimes.rollBlocks
    else s1
  s2.minuteBlocks

end Sys2Proof.Machine
end

