-- ==== Sys2Proof/Machine/Frames.lean ====
section
/-! DEFINITION. A good frame at the Depot Computer Link: taken, answered BUSY or discarded (R152 to R156, R188). -/

namespace Sys2Proof.Machine

/-- R153: a frame is discarded: H1 with the error's number, LINK-ERROR. -/
def State.discardFrame (s : State) (kind : Nat) : State := (s.report .h1 kind).raise .linkError

/-- R154: what the link becomes as the response `r` begins; the rate stays until the response has left (R151). -/
def Link.answering (l : Link) (rate : LinkRate) (r : Response) : Link :=
  { rx := .hunting, service := .inService r none, rate := rate, restarting := l.restarting }
/-- R154: a request is taken: carried out, then its response is on its way. -/
def State.takeRequest (s : State) (serve : State → Reply × State) (code tag : Byte) : State :=
  let r := serve s
  { r.2 with link := r.2.link.answering s.link.rate { code := code, status := r.1.status, tag := tag, body := r.1.body } }

/-- R154, R155, R188: a good frame completes. During start-up it is not taken. -/
def State.goodFrame (s : State) (serve : State → Reply × State) (code tag : Byte) : State :=
  if s.startup then s
  else
    match s.link.service with
    | .idle => s.takeRequest serve code tag
    | .inService resp none =>
      { s with link := { s.link with rx := .hunting, service := .inService resp (some (busyTo code tag)) } }
    | .inService _ (some _) | .sendingBusy _ =>
      State.discardFrame { s with link := { s.link with rx := .hunting } } 5

/-- R157: a body of that length goes to the request's own checks; any other is MALFORMED. -/
def sized (n : Nat) (body : Bytes) (serve : State → Reply × State) (s : State) : Reply × State :=
  if body.length = n then serve s else (refuse .malformed, s)

/-- R157, R171: a request is judged; one that passes has the records its effect reads checked and is carried out on what the
checks left: what they find refuses it no more. -/
def judged (refusal : State → Option Reply) (reads : State → List Nat) (act : State → Reply × State) (s : State) :
    Reply × State :=
  match refusal s with
  | some x => (x, s)
  | none => act (s.reading reads)

/-! ### A request's own checks, one by one (R157, R171) -/

/-- R157: one of a request's own checks: the records that it reads, and what it refuses once they have been checked. -/
structure Check where
  reads   : State → List Nat
  refusal : State → Option Reply

/-- R157: a check that reads no record. -/
def Check.unread (refusal : State → Option Reply) : Check := { reads := fun _ => [], refusal := refusal }
/-- R50, R53, R77, R170: a check against the configured numbers, which the yard settings hold. -/
def Check.counts (refusal : State → Option Reply) : Check := { reads := fun _ => [settingsRecord 1], refusal := refusal }
/-- R157, R171: the checks in their order: each has the records it reads checked, and judges; the first that fails ends them,
and what later ones would have read stands unread. -/
def State.runChecks (s : State) : List Check → Option Reply × State
  | [] => (none, s)
  | c :: cs =>
    let t := s.reading c.reads
    match c.refusal t with
    | some x => (some x, t)
    | none => t.runChecks cs
/-- R157: the first of the checks that fails on the state as it stands. -/
def refusalOf (checks : List Check) (s : State) : Option Reply := checks.findSome? (fun c => c.refusal s)
/-- R157, R171: a request whose checks read records: they are made in order, and one that passes them all has the records of its
effect checked and is carried out on what those checks left. -/
def checked (checks : List Check) (reads : State → List Nat) (act : State → Reply × State) (s : State) : Reply × State :=
  match s.runChecks checks with
  | (some x, t) => (x, t)
  | (none, t) => act (t.reading reads)
/-- R157, R171: a request that names an item by its number goes on where the number is configured; the yard settings, which hold
how many there are, are checked as they are read. Any other number is NOT-FOUND. -/
def onNumber (configured : State → Bool) (serve : State → Reply × State) (s : State) : Reply × State :=
  let t := s.checkRecord (settingsRecord 1)
  if configured t then serve t else (refuse .notFound, t)

/-- R66, R74: the check on the mode of a request that only RUNNING takes, SAFE-MODE in SAFE. -/
def runningCheck : Check :=
  .unread (fun s =>
    if s.mode = .safe then some (refuse .safeMode)
    else if s.mode ≠ .running then some (refuse .wrongState)
    else none)

end Sys2Proof.Machine
end

