-- ==== Sys2Proof/Machine/Fleet.lean ====
section
/-! DEFINITION. The fleet requests (R5 to R14). -/

namespace Sys2Proof.Machine

/-! ### Records and maps (R3, R4) -/

/-- R3: the lowest free index. -/
def State.freeIndex? (s : State) : Option Nat :=
  (List.range Config.maxVehicles).find? (fun v => (s.vehicle? v).isNone)
/-- R4: the maps with the entries of a record at an index. -/
def Fleet.link (f : Fleet) (v fleet : Nat) (tag : Option Nat) : Fleet :=
  { f with
    byFleet := f.byFleet.set fleet v
    byTag := match tag with
      | some t => f.byTag.set t v
      | none => f.byTag }
/-- R4: the maps without the entries of a record. -/
def Fleet.unlink (f : Fleet) (fleet : Nat) (tag : Option Nat) : Fleet :=
  { f with
    byFleet := f.byFleet.del fleet
    byTag := match tag with
      | some t => f.byTag.del t
      | none => f.byTag }
/-- R6: a new record. -/
def Values.record (x : Values) : Vehicle :=
  { fleet := x.fleet, tag := x.tag, body := x.body, drive := x.drive, capacity := x.capacity, soe := x.soe,
    acceptance := x.acceptance, washInterval := x.washInterval, lastWash := x.lastWash, hold := none, passOver := 0,
    state := .out, loc := .absent, assignment := none, key := Config.dayMinutes }
/-- R3, R4, R6: a record is created at a free index. -/
def State.enrol (s : State) (v : Nat) (x : Values) : State :=
  let f := s.fleet.link v x.fleet x.tag
  State.freshen (State.unmark { s with fleet := { f with vehicles := f.vehicles.set v x.record.clamped } } v) v

/-! ### ENROL VEHICLE (R6) -/

/-- R6, R11: the fields of the value block that ENROL VEHICLE judges. -/
def enrolMask : Nat := 0x10D
/-- R6: the checks from the second on, and the effect. -/
def State.enrolValues (s : State) (x : Values) : Reply × State :=
  if !batteryOk x.drive x.capacity x.acceptance then (refuse .outOfRange, s)
  else if (s.byFleet x.fleet).isSome || x.tag.any (fun t => (s.byTag t).isSome) then (refuse .conflict, s)
  else match s.freeIndex? with
    | none => (refuse .full, s)
    | some v => (done (be16 v), s.enrol v x)
/-- R6. -/
def serveEnrolVehicle (body : Bytes) : State → Reply × State :=
  sized 18 body (fun s =>
    if !valuesOk body 0 enrolMask then (refuse .malformed, s) else s.enrolValues (valuesAt body 0))

/-! ### Requests that name a vehicle (R5, R171) -/

/-- R5: the live vehicle a selector names goes on; any other is refused, and no record is read. -/
def onSelected (body : Bytes) (serve : Nat → State → Reply × State) (s : State) : Reply × State :=
  match s.select body with
  | .error x => (refuse x, s)
  | .ok v => serve v s
/-- R5, R171: the vehicle a selector names goes on, its record checked as it is read. -/
def onVehicle (body : Bytes) (serve : Nat → State → Reply × State) : State → Reply × State :=
  onSelected body (fun v s => serve v (s.checkRecord v))

/-! ### AMEND VEHICLE (R11 to R13) -/

/-- R11: an amendment: the mask and the values. -/
structure Amendment where
  mask   : Nat
  values : Values
  hold   : Nat
  pass   : Nat
  deriving DecidableEq, Repr

/-- R190: the amendment a body carries. -/
def amendmentOf (body : Bytes) : Amendment :=
  { mask := at16 body 5, values := valuesAt body 7, hold := at8 body 25, pass := at8 body 26 }
/-- R11: the mask that names every amendable field. -/
def fullMask : Nat := 0x7FF
/-- R1, R2, R11: the record as the amendment leaves it. -/
def Amendment.apply (a : Amendment) (r : Vehicle) : Vehicle :=
  let n := bitAt a.mask
  Vehicle.clamped { r with
    fleet := if n 0 then a.values.fleet else r.fleet
    tag := if n 1 then a.values.tag else r.tag
    body := if n 2 then a.values.body else r.body
    drive := if n 3 then a.values.drive else r.drive
    capacity := if n 4 then a.values.capacity else r.capacity
    soe := if n 5 then a.values.soe else r.soe
    acceptance := if n 6 then a.values.acceptance else r.acceptance
    washInterval := if n 7 then a.values.washInterval else r.washInterval
    lastWash := if n 8 then a.values.lastWash else r.lastWash
    hold := if n 9 then nonzero a.hold else r.hold
    passOver := if n 10 then a.pass else r.passOver }
/-- R11: the capacity and acceptance limit that check 3 judges: as they will be, before R1's zeroing. -/
def Amendment.batteryFits (a : Amendment) (r : Vehicle) : Bool :=
  batteryOk (if bitAt a.mask 3 then a.values.drive else r.drive)
    (if bitAt a.mask 4 then a.values.capacity else r.capacity)
    (if bitAt a.mask 6 then a.values.acceptance else r.acceptance)
/-- R11: the amendment sets a hold. -/
def Amendment.holds (a : Amendment) : Bool := bitAt a.mask 9 && a.hold != 0
/-- R8, R11: DEPARTING at APRON. -/
def Vehicle.onApron (r : Vehicle) : Bool := r.state == .departing && r.loc == .apron
/-- R11: a fleet number or tag used by another record. -/
def State.takenByOther (s : State) (v fleet : Nat) (tag : Option Nat) : Bool :=
  (s.byFleet fleet).any (· != v) || tag.any (fun t => (s.byTag t).any (· != v))
/-- R11: a body class and drive that the assigned active slot does not accept. -/
def State.slotRefuses (s : State) (r : Vehicle) : Bool :=
  match r.assignment with
  | some n => (s.slot n).any (fun x => !x.accepts r)
  | none => false

/-- R11: the body class or the drive changes. -/
def kindChanged (r r' : Vehicle) : Bool := r'.body != r.body || r'.drive != r.drive
/-- R11, R13: the first of the checks 2 to 4 that fails, for a vehicle whose record stands as `r` and would become `r'`. -/
def State.amendForbids (s : State) (v : Nat) (a : Amendment) (r r' : Vehicle) : Option Status :=
  let rewrite := s.damaged v
  if rewrite && a.mask != fullMask then some .damaged
  else if !a.batteryFits r then some .outOfRange
  else if !rewrite && kindChanged r r' && r.state != .out && r.state != .unknown then some .wrongState
  else none
/-- R11, R13: the fifth check looks for a session: the capacity or the SoE changes, and the record is not rewritten. -/
def State.judgesCharge (s : State) (v : Nat) (a : Amendment) : Bool :=
  let r := s.vehicle v
  !s.damaged v && ((a.apply r).capacity != r.capacity || (a.apply r).soe != r.soe)
/-- R11: the first of the checks 6 and 7 that fails. -/
def State.amendClashes (s : State) (v : Nat) (a : Amendment) (r r' : Vehicle) : Option Status :=
  if a.holds && r.onApron then some .wrongState
  else if s.takenByOther v r'.fleet r'.tag then some .conflict
  else none
/-- R11, R13: the last check is made: for a rewrite, and where the body class or the drive changes. -/
def State.judgesKind (s : State) (v : Nat) (a : Amendment) : Bool :=
  s.damaged v || kindChanged (s.vehicle v) (a.apply (s.vehicle v))
/-- R11, R13: the checks of AMEND VEHICLE from the second on; the fifth reads the session, the last the active slot. -/
def amendChecks (v : Nat) (a : Amendment) : List Check :=
  [ .unread (fun s => (s.amendForbids v a (s.vehicle v) (a.apply (s.vehicle v))).map refuse),
    { reads := fun s => if s.judgesCharge v a then s.ownSessionReads v else []
      refusal := fun s =>
        if s.judgesCharge v a && (s.sessionPoint v).isSome then some (refuse .wrongState) else none },
    .unread (fun s => (s.amendClashes v a (s.vehicle v) (a.apply (s.vehicle v))).map refuse),
    { reads := fun s => if s.judgesKind v a then s.slotReads v else []
      refusal := fun s =>
        if s.judgesKind v a && s.slotRefuses (a.apply (s.vehicle v)) then some (refuse .conflict) else none } ]

/-- R105: the active slots name a vehicle by its new fleet number. -/
def renameIn (v old new : Nat) (x : Option (Nat × Nat)) : Option (Nat × Nat) :=
  if x = some (v, old) then some (v, new) else x
/-- R105: the active slots name a vehicle by its new fleet number. -/
def State.renameSlots (s : State) (v old new : Nat) : State :=
  if old = new then s
  else s.setActive (s.roster.active.map (fun x =>
    { x with assigned := renameIn v old new x.assigned, last := renameIn v old new x.last }))
/-- R4, R12: the record and its map entries. -/
def State.writeRecord (s : State) (v : Nat) (r r' : Vehicle) : State :=
  let f := (s.fleet.unlink r.fleet r.tag).link v r'.fleet r'.tag
  (State.setVehicle { s with fleet := f } v r').renameSlots v r.fleet r'.fleet
/-- R13: a damaged vehicle PARKED at a position, once rewritten, is told of as an arrival. -/
def State.tellStanding (s : State) (v : Nat) : State :=
  match (s.vehicle v).state, (s.vehicle v).loc with
  | .parked, .lane l p => s.tellArrival l p
  | _, _ => s
/-- R12, R13: an amendment that has been taken, passed on to the blocks. -/
def State.amend (s : State) (v : Nat) (a : Amendment) (r r' : Vehicle) : State :=
  let rewrite := s.damaged v
  let s1 := s.writeRecord v r r'
  let s2 := if rewrite then ((s1.unmark v).freshen v).tellStanding v else s1
  let s3 := if a.holds then s2.withdrawFrom v else s2
  let s4 := if r'.acceptance != r.acceptance && (s3.sessionPoint v).isSome then s3.recompute else s3
  if r'.soe != r.soe || r'.capacity != r.capacity then s4.regrade v else s4
/-- R13, R171: what is read where a rewritten vehicle stands: the lane, and the opening check at a point of it. -/
def State.standingReads (s : State) (v : Nat) : List Nat :=
  match (s.vehicle v).state, (s.vehicle v).loc with
  | .parked, .lane l pos => laneRecord l :: s.arrivalReads v l pos
  | _, _ => []
/-- R12, R13, R105, R171: what an amendment reads as it is passed on: the active slots that may name the vehicle by its old
fleet number, the point where a rewritten vehicle stands, a call that a hold withdraws, the sessions, the waiting grade. -/
def State.amendReads (v : Nat) (a : Amendment) (s : State) : List Nat :=
  let r := s.vehicle v
  let r' := a.apply r
  (if r'.fleet != r.fleet then s.roster.active.map (·.record) else []) ++
  (if s.damaged v then s.standingReads v else []) ++ (if a.holds then s.callReads v else []) ++
  (if r'.acceptance != r.acceptance && (s.sessionPoint v).isSome then s.energyReads else []) ++
  (if r'.soe != r.soe || r'.capacity != r.capacity then s.gradeReads v else [])
/-- R11 to R13, R171: AMEND VEHICLE on a vehicle whose record has been checked. -/
def amendOn (a : Amendment) (v : Nat) : State → Reply × State :=
  checked (amendChecks v a) (State.amendReads v a)
    (fun t => (done [], t.amend v a (t.vehicle v) (a.apply (t.vehicle v))))
/-- R11 to R13: the body is judged before any record is read. -/
def serveAmendVehicle (body : Bytes) : State → Reply × State :=
  sized 27 body (onSelected body (fun v s =>
    let a := amendmentOf body
    if fullMask < a.mask || !valuesOk body 7 a.mask then (refuse .malformed, s) else amendOn a v (s.checkRecord v)))

/-! ### RETIRE, READ, HOLD, SET ENERGY (R7 to R10, R14) -/

/-- R14: a record is freed. R14 is silent on a LEAVING entry that an OUT vehicle still has in a lane: it stays, under the
freed index, until its berth is reported empty (log entry 61). -/
def State.retire (s : State) (v : Nat) : State :=
  let r := s.vehicle v
  let s1 := match r.assignment with
    | some n => ((s.updSlot n Slot.opened).setAssignment v none).passOn [v]
    | none => s
  let f := s1.fleet.unlink r.fleet r.tag
  State.freshen (State.unmark { s1 with fleet := { f with vehicles := f.vehicles.del v } } v) v
/-- R14: only an OUT or UNKNOWN vehicle is retired. -/
def State.retireRefusal (s : State) (v : Nat) : Option Reply :=
  if (s.vehicle v).state = .out ∨ (s.vehicle v).state = .unknown then none else some (refuse .wrongState)
/-- R14, R171: what the end of an assignment is passed on to. -/
def State.retireReads (v : Nat) (s : State) : List Nat := if (s.vehicle v).assignment.isSome then s.keyReads v else []
/-- R14. -/
def retireOn (v : Nat) : State → Reply × State :=
  judged (fun t => t.retireRefusal v) (State.retireReads v) (fun t => (done (be16 v), t.retire v))
/-- R14. -/
def serveRetireVehicle (body : Bytes) : State → Reply × State := sized 5 body (onVehicle body retireOn)

/-- R7. -/
def readOn (v : Nat) (s : State) : Reply × State :=
  let r := s.vehicle v
  if s.damaged v then ({ status := .damaged, body := damagedVehicleBytes v r.fleet r }, s)
  else (done (vehicleBytes v r false), s)
/-- R7. -/
def serveReadVehicle (body : Bytes) : State → Reply × State := sized 5 body (onVehicle body readOn)

/-- R8: a DEPARTING vehicle at APRON is not held. -/
def State.holdRefusal (s : State) (v : Nat) : Option Reply :=
  if (s.vehicle v).onApron then some (refuse .wrongState) else none
/-- R8, R9. -/
def holdOn (reason v : Nat) : State → Reply × State :=
  judged (fun t => t.holdRefusal v) (fun t => if reason = 0 then [] else t.callReads v) (fun t =>
    let u := t.updVehicle v (fun r => { r with hold := nonzero reason })
    (done [], if reason = 0 then u else u.withdrawFrom v))
/-- R8, R9. -/
def serveHoldVehicle (body : Bytes) : State → Reply × State := sized 6 body (onVehicle body (holdOn (at8 body 5)))

/-- R10: the three checks; the last reads the session. -/
def energyChecks (v : Nat) : List Check :=
  [ .unread (fun s => if s.damaged v then some (refuse .damaged) else none),
    .unread (fun s => if (s.vehicle v).battery then none else some (refuse .wrongState)),
    { reads := fun s => s.ownSessionReads v
      refusal := fun s => if (s.sessionPoint v).isSome then some (refuse .wrongState) else none } ]
/-- R10, R171: the grade that follows reads the lane, the point and the slot. -/
def energyOn (soe v : Nat) : State → Reply × State :=
  checked (energyChecks v) (fun t => t.gradeReads v) (fun t =>
    let stored := min soe (t.vehicle v).capacity
    (done (be16 stored), (t.updVehicle v (fun x => { x with soe := stored })).regrade v))
/-- R10. -/
def serveSetEnergy (body : Bytes) : State → Reply × State := sized 7 body (onVehicle body (energyOn (at16 body 5)))

/-! ### The commands -/

/-- ENROL VEHICLE, 0x01 (R6). -/
def execEnrolVehicle (tag : Byte) (body : Bytes) (s : State) : Host.Outcome State Fault Refusal :=
  .next (s.goodFrame (serveEnrolVehicle body) 0x01#8 tag)
/-- AMEND VEHICLE, 0x02 (R11 to R13). -/
def execAmendVehicle (tag : Byte) (body : Bytes) (s : State) : Host.Outcome State Fault Refusal :=
  .next (s.goodFrame (serveAmendVehicle body) 0x02#8 tag)
/-- RETIRE VEHICLE, 0x03 (R14). -/
def execRetireVehicle (tag : Byte) (body : Bytes) (s : State) : Host.Outcome State Fault Refusal :=
  .next (s.goodFrame (serveRetireVehicle body) 0x03#8 tag)
/-- READ VEHICLE, 0x04 (R7). -/
def execReadVehicle (tag : Byte) (body : Bytes) (s : State) : Host.Outcome State Fault Refusal :=
  .next (s.goodFrame (serveReadVehicle body) 0x04#8 tag)
/-- HOLD VEHICLE, 0x05 (R8, R9). -/
def execHoldVehicle (tag : Byte) (body : Bytes) (s : State) : Host.Outcome State Fault Refusal :=
  .next (s.goodFrame (serveHoldVehicle body) 0x05#8 tag)
/-- SET ENERGY, 0x06 (R10). -/
def execSetEnergy (tag : Byte) (body : Bytes) (s : State) : Host.Outcome State Fault Refusal :=
  .next (s.goodFrame (serveSetEnergy body) 0x06#8 tag)

end Sys2Proof.Machine
end

