-- ==== Sys2Proof/Machine/YardRequests.lean ====
section
/-! DEFINITION. The yard requests on lanes and spots (R66, R67, R71 to R76, R181). -/

namespace Sys2Proof.Machine

/-- R50: a lane is configured. -/
def State.hasLane (s : State) (l : Nat) : Bool := decide (1 ≤ l ∧ l ≤ s.geo.numLanes)
/-- R53: a spot is configured. -/
def State.hasSpot (s : State) (n : Nat) : Bool := decide (1 ≤ n ∧ n ≤ s.geo.numSpots)
/-- R171: a check of that record would find it damaged now. -/
def State.findsDamage (s : State) (n : Nat) : Bool :=
  !s.marked n && s.faults.errors.any (fun e => e.record == n && e.kind != .single)
/-- R171: a configured lane goes on, its record checked as it is read; any other number is NOT-FOUND. -/
def onLane (l : Nat) (serve : State → Reply × State) : State → Reply × State :=
  onNumber (fun s => s.hasLane l) (fun s => serve (s.checkRecord (laneRecord l)))

/-! ### READ LANE (R71) -/

/-- R190: a lane's geometry fields. -/
def laneGeoBytes (g : LaneGeo) : Bytes :=
  be8 (laneKindCode g.kind) ++ be8 g.depth ++ be8 (berthCode g.cls) ++ be8 g.node ++ be8 g.index ++
  (upTo 1 8).flatMap (fun p => be8 ((g.points.get? p).getD 0))
/-- R190: an entry as read. A LEAVING entry stays after its OUT vehicle is retired (log entry 61); until the index is taken again
the spec gives no fleet number and no key for it, and fleet number 0 and key 1440 are answered, as of a blank record. -/
def entryBytes (s : State) (e : Entry) : Bytes :=
  be8 e.pos ++ be16 e.vehicle ++ be16 (s.fleetOf e.vehicle) ++ be16 (s.vehicle e.vehicle).key ++
  be8 (markCode e.mark) ++ be8 (leavingCode e.mark) ++ time? (markDeadline e.mark)
/-- R71, R190: the body of READ LANE. -/
def laneBytes (s : State) (l : Nat) : Bytes :=
  let r := s.lane l
  laneGeoBytes (s.geo.lane l) ++ be8 (laneStateCode r.state) ++ flag r.closing ++ flag r.entryInFlight ++
  flag r.exitInFlight ++ be8 r.inversions ++ [r.image] ++ be8 r.entries.length ++ r.entries.flatMap (entryBytes s)
/-- R71: READ LANE. -/
def serveReadLane (body : Bytes) : State → Reply × State :=
  let l := at8 body 0
  sized 1 body (onNumber (fun s => s.hasLane l) (fun s =>
    let t := s.checkRecord (laneRecord l)
    if s.findsDamage (laneRecord l) then
      ({ status := .damaged, body := laneGeoBytes (t.geo.lane l) ++ be8 (laneStateCode (t.lane l).state) }, t)
    else
      let u := t.reading (fun x => x.laneReads l)
      (done (laneBytes u l), u)))

/-! ### CLOSE LANE and OPEN LANE (R72, R73) -/

/-- R72: a lane is closed. -/
def State.closeLane (s : State) (l : Nat) : State :=
  let r := s.lane l
  match r.state with
  | .opened => if r.entryInFlight then s.setLane l { r with closing := true } else s.shut l
  | .unverified => s.setLane l { r with closing := true }
  | .closed => s
/-- R72. -/
def serveCloseLane (body : Bytes) : State → Reply × State :=
  sized 1 body (onLane (at8 body 0) (fun s => (done [], s.closeLane (at8 body 0))))
/-- R73: a lane that is not UNVERIFIED is opened; one that has become OPEN triggers a retry. -/
def State.openLane (s : State) (l : Nat) : State :=
  let r := s.lane l
  (s.setLane l { r with state := .opened, closing := false }).retryIf (r.state == .closed)
/-- R73: the checks of OPEN LANE on a configured lane: the mode; the lane, from its record. -/
def openChecks (l : Nat) : List Check :=
  [ .unread (fun s => if s.mode = .safe then some (refuse .safeMode) else none),
    { reads := fun _ => [laneRecord l]
      refusal := fun s => if (s.lane l).state = .unverified then some (refuse .wrongState) else none } ]
/-- R73, R171: a lane that becomes OPEN reads what a retry goes through. -/
def State.openReads (l : Nat) (s : State) : List Nat := if (s.lane l).state = .closed then s.retryReads else []
/-- R73. -/
def serveOpenLane (body : Bytes) : State → Reply × State :=
  let l := at8 body 0
  sized 1 body (onNumber (fun s => s.hasLane l)
    (checked (openChecks l) (State.openReads l) (fun t => (done [], t.openLane l))))

/-! ### VERIFY LANE (R66, R67) -/

/-- R190: the positions and fleet numbers that VERIFY LANE lists. -/
def verifyList (body : Bytes) : List (Nat × Nat) :=
  (List.range (at8 body 1)).map (fun i => (at8 body (2 + 3 * i), at16 body (3 + 3 * i)))
/-- R66: positions strictly increasing, from above `low`. -/
def risingFrom : Nat → List Nat → Bool
  | _, [] => true
  | low, p :: ps => decide (low < p) && risingFrom p ps
/-- R66, check 1, but for the depth: positions strictly increasing from 1, no fleet number twice. -/
def verifyForm (list : List (Nat × Nat)) : Bool := risingFrom 0 (list.map (·.1)) && allDistinct (list.map (·.2))
/-- R66, check 1: the positions are within the lane's depth, against one of 8 where the lane is not configured (log
entry 45). -/
def State.verifyWithin (s : State) (l : Nat) (list : List (Nat × Nat)) : Bool :=
  list.all (fun x => decide (x.1 ≤ if s.hasLane l then (s.geo.lane l).depth else 8))
/-- R66, check 6, for a vehicle named at a position. -/
def State.verifyFits (s : State) (l pos v : Nat) : Bool :=
  let r := s.vehicle v
  fitsBerth r.body (s.geo.lane l).cls &&
  (match r.state, r.loc with
    | .unknown, _ => true
    | .parked, .lane k _ => k == l
    | .toBerth, .lane k _ => k == l
    | .departing, .lane k p => k == l && p == pos && ((s.lane l).at? pos).any (fun e =>
        e.vehicle == v && e.mark == .leavingCall)
    | _, _ => false)
/-- R66: the set of named positions. -/
def namedSet (list : List (Nat × Nat)) : BitVec 8 := list.foldl (fun acc x => acc ||| (1#8 <<< (x.1 - 1))) 0#8
/-- R66, check 6, for a vehicle named (position, index): it alone is read. -/
def verifyFitCheck (l : Nat) (x : Nat × Nat) : Check :=
  { reads := fun _ => [x.2], refusal := fun s => if s.verifyFits l x.1 x.2 then none else some (refuse .conflict) }
/-- R66: the six checks. Where a position is named the number of lanes is read, and of a configured lane the record, for the
depth; the state and the image are read from the lane's record, the vehicles one by one; the vehicles stand as `named` (position,
index), which only check 2 finds to be in the map. -/
def verifyChecks (l : Nat) (list named : List (Nat × Nat)) : List Check :=
  [ .unread (fun _ => if verifyForm list then none else some (refuse .malformed)),
    { reads := fun _ => if list.isEmpty then [] else [settingsRecord 1], refusal := fun _ => none },
    { reads := fun s => if s.hasLane l && !list.isEmpty then [laneRecord l] else []
      refusal := fun s => if s.verifyWithin l list then none else some (refuse .malformed) },
    .counts (fun s =>
      if !s.hasLane l || list.any (fun x => (s.byFleet x.2).isNone) then some (refuse .notFound) else none),
    runningCheck,
    { reads := fun _ => [laneRecord l]
      refusal := fun s => if (s.lane l).state = .unverified then none else some (refuse .wrongState) },
    .unread (fun s => if namedSet list = (s.lane l).image then none else some (refuse .conflict)) ] ++
  named.map (verifyFitCheck l)

/-- R67: a named vehicle's entry. -/
def State.verifiedEntry (s : State) (x : Nat × Nat) : Entry :=
  { vehicle := x.2, pos := x.1, mark := if (s.vehicle x.2).state = .departing then .leavingCall else .settled }
/-- R53, R67: a named vehicle other than a DEPARTING one becomes PARKED, and a move that brought it is over: a source
entry is left to clear, and an overflow spot that it held, whose move out has completed at its destination, becomes free
(R53; log entry 45). -/
def State.verifyNamed (l : Nat) (s : State) (x : Nat × Nat) : State :=
  if (s.vehicle x.2).state = .departing then s
  else
    let t := s.closeMove x.2
    (t.place x.2 .parked (.lane l x.1)).freeSpots (t.spotsOf x.2 Spot.isHeld)
/-- R67: a vehicle located in this lane but not named; entries of vehicles located elsewhere only go. R67 does not say what
becomes of the overflow spot that a TO-BERTH vehicle came from: it becomes free. A DEPARTING vehicle that is called from another
lane and still has the entry of an earlier move here is treated as one located elsewhere: the entry goes and the vehicle is left
DEPARTING at its place there, without APRON, though R67's row DEPARTING names no location (log entry 45). -/
def State.verifyUnnamed (l : Nat) (s : State) (v : Nat) : State :=
  match (s.vehicle v).state, (s.vehicle v).loc with
  | .departing, .lane k _ => if k = l then (s.place v .departing .apron).berthCleared v else s
  | _, .lane k _ =>
    if k = l then
      let t := s.closeMove v
      (t.place v .unknown .absent).freeSpots (t.spotsOf v Spot.isHeld)
    else s
  | _, _ => s
/-- R67: the Energy Manager is told of the positions whose vehicle changed. -/
def State.tellChanged (l : Nat) (new : List Entry) (s : State) (e : Entry) : State :=
  if new.any (fun x => x.pos == e.pos && x.vehicle == e.vehicle) then s else s.tellDeparture e.vehicle l e.pos
/-- R67: the vehicles located in a lane that are not named (position, index). -/
def State.unnamedIn (s : State) (l : Nat) (named : List (Nat × Nat)) : List Nat :=
  ((s.fleet.vehicles.rows.filter (fun r => r.2.inLane l)).map (·.1)).filter (fun v => !named.any (fun x => x.2 == v))
/-- R67: the lane is rebuilt from the vehicles named (position, index). -/
def State.verify (s : State) (l : Nat) (named : List (Nat × Nat)) : State :=
  let old := s.lane l
  let new := named.map s.verifiedEntry
  let unnamed := s.unnamedIn l named
  let cleared := unnamed.any (fun v => (s.vehicle v).state == .departing)
  let left := old.entries.any (fun e => !new.any (fun x => x.vehicle == e.vehicle && x.pos == e.pos))
  let s1 := unnamed.foldl (State.verifyUnnamed l) (named.foldl (State.verifyNamed l) s)
  let s2 := (s1.setLane l { s1.lane l with
    state := if old.closing then .closed else .opened, closing := false, entries := new }).recount l
  let s3 := old.entries.foldl (State.tellChanged l new) s2
  let s4 := (new.filter (fun e => e.mark.isSettled)).foldl (fun t e => t.tellArrival l e.pos) s3
  let freed := decide (s4.yard.spots.rows.length < s.yard.spots.rows.length)
  (s4.retryIf (left || !old.closing || freed)).attemptIf cleared
/-- R67, R171: what the rebuild reads further: the lane's list, the Fleet Table for the vehicles located there, the arrivals at
the points with the slots of the vehicles named there, the sessions, and what a retry goes through; where a vehicle that is not
named is DEPARTING, its slot, whose berth has cleared, and what the pass goes through. -/
def State.rebuildReads (l : Nat) (named : List (Nat × Nat)) (s : State) : List Nat :=
  let gone := (s.unnamedIn l named).filter (fun v => (s.vehicle v).state == .departing)
  s.laneReads l ++ s.fleet.vehicles.keys ++ named.flatMap (fun x => s.arrivalReads x.2 l x.1) ++ s.energyReads ++
  s.retryReads ++ gone.flatMap s.slotReads ++ (if gone.isEmpty then [] else s.passReads)
/-- R66, R67, R171. -/
def serveVerifyLane (body : Bytes) (s : State) : Reply × State :=
  if body.length = 2 + 3 * at8 body 1 ∧ at8 body 1 ≤ 8 then
    let l := at8 body 0
    let list := verifyList body
    let named := list.map (fun x => (x.1, (s.byFleet x.2).getD 0))
    checked (verifyChecks l list named) (State.rebuildReads l named) (fun t => (done [], t.verify l named)) s
  else (refuse .malformed, s)

/-! ### MOVE VEHICLE (R74, R75) -/

/-- R190: where MOVE VEHICLE and PLACE VEHICLE name. -/
inductive Dest where
  | lane (l : Nat)
  | spot (n : Nat)
  | out
  deriving DecidableEq, Repr
/-- R74, R192: the destination of a kind code and a number. -/
def destOf (kind number : Nat) : Option Dest :=
  if kind = 7 then some (.lane number) else if kind = 8 then some (.spot number) else if kind = 10 then some .out
  else none
/-- R74, R181: a named lane or spot is configured. -/
def State.hasDest (s : State) : Dest → Bool
  | .lane l => s.hasLane l
  | .spot n => s.hasSpot n
  | .out => true
/-- R74, R181: the check that a named lane or spot is configured. -/
def destCheck (d : Dest) : Check :=
  { reads := fun _ => if d = .out then [] else [settingsRecord 1]
    refusal := fun s => if s.hasDest d then none else some (refuse .notFound) }
/-- R74: a vehicle that check 4 takes, but for the lane test of a PARKED one. -/
def Vehicle.waits (r : Vehicle) : Bool := r.state == .parked || r.state == .inOverflow
/-- R74, check 5. -/
def Dest.isOwn (d : Dest) (loc : Loc) : Bool :=
  match d, loc with
  | .lane l, .lane k _ => l == k
  | .spot n, .overflow k => n == k
  | _, _ => false
/-- R74, check 6. -/
def State.destOpen (s : State) (v : Nat) : Dest → Bool
  | .lane l => s.candidate v l
  | .spot n => (s.spot n).isNone
  | .out => false

/-- R75: a vehicle leaves its lane position by a host move. -/
def State.leaveByMove (s : State) (v l pos : Nat) : State :=
  (s.setMark l v pos (.leavingMove s.moveDeadline false)).tellDeparture v l pos
/-- R75: a move into a lane, from the node that directs it. -/
def State.moveToLane (s : State) (v l node : Nat) : State :=
  let block := !s.orderedIn v l
  let s' := (s.headFor v l s.moveDeadline).direct node v .lane l
  if block then s'.raise .blockCreated else s'
/-- R75: the move of a vehicle that stands at `loc`. -/
def State.move (s : State) (v : Nat) (d : Dest) (loc : Loc) : State :=
  match loc, d with
  | .lane k p, .lane l => (s.leaveByMove v k p).moveToLane v l (s.geo.lane k).node
  | .lane k p, .spot n =>
    let s1 := (s.leaveByMove v k p).setSpot n (some (.reserved v s.moveDeadline))
    (s1.place v .toBerth (.overflow n)).direct (s.geo.lane k).node v .overflow n
  | .overflow _, .lane l => s.moveToLane v l s.geo.display
  | .overflow k, .spot n =>
    let s1 := ((s.setSpot k none).setSpot n (some (.held v))).place v .inOverflow (.overflow n)
    (s1.direct s.geo.display v .overflow n).retry
  | _, _ => s
/-- R171: the record of a destination lane. -/
def Dest.laneRead : Dest → List Nat
  | .lane l => [laneRecord l]
  | .spot _ | .out => []
/-- R74: the checks from the second on: the destination's number; the mode; the vehicle, and the lane it is PARKED in; the
destination, a lane's record with it. -/
def moveChecks (v : Nat) (d : Dest) : List Check :=
  [ destCheck d,
    runningCheck,
    { reads := fun _ => [v], refusal := fun s => if (s.vehicle v).waits then none else some (refuse .wrongState) },
    { reads := fun s => s.ownLaneReads v, refusal := fun s => if s.callable v then none else some (refuse .wrongState) },
    .unread (fun s => if d.isOwn (s.vehicle v).loc then some (refuse .conflict) else none),
    { reads := fun _ => d.laneRead, refusal := fun s => if s.destOpen v d then none else some (refuse .conflict) } ]
/-- R171: the vehicles in a destination's lane, whose keys are compared there. -/
def State.destReads (s : State) : Dest → List Nat
  | .lane l => s.laneReads l
  | .spot _ | .out => []
/-- R75, R171: what the move reads further: the start, the destination's list, and where a spot becomes free for another the
retry. -/
def State.moveReads (v : Nat) (d : Dest) (s : State) : List Nat :=
  s.startReads v ++ s.destReads d ++
  (match d, (s.vehicle v).loc with
    | .spot _, .overflow _ => s.retryReads
    | _, _ => [])
/-- R74, R75, R171. -/
def serveMoveVehicle (body : Bytes) : State → Reply × State :=
  sized 4 body (fun s =>
    match destOf (at8 body 2) (at8 body 3) with
    | none | some .out => (refuse .malformed, s)
    | some d =>
      match s.byFleet (at16 body 0) with
      | none => (refuse .notFound, s)
      | some v => checked (moveChecks v d) (State.moveReads v d) (fun t => (done [], t.move v d (t.vehicle v).loc)) s)

/-! ### PLACE VEHICLE (R76, R181) -/

/-- R181, check 4, on the place named: a position within the depth and not held by another vehicle's entry, a spot free or held
by this vehicle. -/
def State.placeFree (s : State) (v pos : Nat) : Dest → Bool
  | .lane l => decide (1 ≤ pos ∧ pos ≤ (s.geo.lane l).depth) && ((s.lane l).at? pos).all (fun e => e.vehicle == v)
  | .spot n => (s.spot n).all (fun x => x == .held v)
  | .out => true
/-- R181, check 4, on the vehicle: the berth class fits it. -/
def State.placeSuits (s : State) (v : Nat) : Dest → Bool
  | .lane l => fitsBerth (s.vehicle v).body (s.geo.lane l).cls
  | .spot _ | .out => true
/-- R181: the checks from the second on: the destination's number; the mode; the place, a lane's record with it; for a lane the
vehicle. -/
def placeChecks (v pos : Nat) (d : Dest) : List Check :=
  [ destCheck d,
    .unread (fun s => if s.mode = .census then none else some (refuse .wrongState)),
    { reads := fun _ => d.laneRead, refusal := fun s => if s.placeFree v pos d then none else some (refuse .conflict) },
    { reads := fun _ => if d.laneRead.isEmpty then [] else [v]
      refusal := fun s => if s.placeSuits v d then none else some (refuse .conflict) } ]
/-- R181: the vehicle already stands at the position or spot named. -/
def State.standsAt (s : State) (v pos : Nat) : Dest → Bool
  | .lane l => (s.vehicle v).state == .parked && (s.vehicle v).loc == .lane l pos
  | .spot n => (s.vehicle v).state == .inOverflow && (s.vehicle v).loc == .overflow n
  | .out => false
/-- R76: a vehicle's entry in a lane, if any, is released. -/
def State.releaseEntry (v : Nat) (s : State) (l : Nat) : State :=
  if (s.lane l).entries.any (fun e => e.vehicle == v) then s.dropEntries l (fun e => e.vehicle == v) else s
/-- R181: the vehicle leaves whatever held it. -/
def State.releaseAll (s : State) (v : Nat) : State :=
  let r := s.vehicle v
  let s1 := ((s.place v .out .absent).leaveLine v r).unstrand v
  let s2 := (s1.laneNums.foldl (State.releaseEntry v) s1).freeSpotsOf v
  match r.loc with
  | .lane l p => s2.tellDeparture v l p
  | _ => s2
/-- R76, R181: the vehicle takes its destination. -/
def State.settleAt (s : State) (v pos : Nat) : Dest → State
  | .lane l =>
    ((s.addEntry l { vehicle := v, pos := pos, mark := .settled }).place v .parked (.lane l pos)).tellArrival l pos
  | .spot n => (s.setSpot n (some (.held v))).place v .inOverflow (.overflow n)
  | .out => s
/-- R181: the response body. -/
def placedBytes (r : Vehicle) : Bytes := be8 (stateCode r.state) ++ locBytes r.loc
/-- R81, R93, R171, R181: what the arrival at a position reads: the lane's list, the point bound to the position, and what a
waiting grade is formed from. -/
def State.settleReads (s : State) (v pos : Nat) : Dest → List Nat
  | .lane l => s.laneReads l ++ (match s.pointAt l pos with
    | some p => settingsRecord 0 :: pointSettings p :: s.slotReads v
    | none => [])
  | .spot _ | .out => []
/-- R76, R171, R181: what the placement reads: the vehicle, and unless it stands there already what held it and the place
it takes. -/
def State.placeReads (v pos : Nat) (d : Dest) (s : State) : List Nat :=
  v :: (if s.standsAt v pos d then [] else s.lineReads v ++ s.keyReads v ++ s.settleReads v pos d)
/-- R76, R181: the vehicle is placed; where it stands there already nothing changes. -/
def State.placed (s : State) (v pos : Nat) (d : Dest) : State :=
  if s.standsAt v pos d then s else (s.releaseAll v).settleAt v pos d
/-- R76, R171, R181: from the check of the destination's number on. -/
def placeOn (v pos : Nat) (d : Dest) : State → Reply × State :=
  checked (placeChecks v pos d) (State.placeReads v pos d) (fun t =>
    let s' := t.placed v pos d
    (done (placedBytes (s'.vehicle v)), s'))
/-- R76, R181. -/
def servePlaceVehicle (body : Bytes) : State → Reply × State :=
  sized 5 body (fun s =>
    match destOf (at8 body 2) (at8 body 3) with
    | none => (refuse .malformed, s)
    | some d =>
      match s.byFleet (at16 body 0) with
      | none => (refuse .notFound, s)
      | some v => placeOn v (at8 body 4) d s)

/-! ### The commands -/

/-- READ LANE, 0x20 (R71). -/
def execReadLane (tag : Byte) (body : Bytes) (s : State) : Host.Outcome State Fault Refusal :=
  .next (s.goodFrame (serveReadLane body) 0x20#8 tag)
/-- CLOSE LANE, 0x21 (R72). -/
def execCloseLane (tag : Byte) (body : Bytes) (s : State) : Host.Outcome State Fault Refusal :=
  .next (s.goodFrame (serveCloseLane body) 0x21#8 tag)
/-- OPEN LANE, 0x22 (R73). -/
def execOpenLane (tag : Byte) (body : Bytes) (s : State) : Host.Outcome State Fault Refusal :=
  .next (s.goodFrame (serveOpenLane body) 0x22#8 tag)
/-- VERIFY LANE, 0x23 (R66, R67). -/
def execVerifyLane (tag : Byte) (body : Bytes) (s : State) : Host.Outcome State Fault Refusal :=
  .next (s.goodFrame (serveVerifyLane body) 0x23#8 tag)
/-- MOVE VEHICLE, 0x24 (R74, R75). -/
def execMoveVehicle (tag : Byte) (body : Bytes) (s : State) : Host.Outcome State Fault Refusal :=
  .next (s.goodFrame (serveMoveVehicle body) 0x24#8 tag)
/-- PLACE VEHICLE, 0x25 (R76, R181). -/
def execPlaceVehicle (tag : Byte) (body : Bytes) (s : State) : Host.Outcome State Fault Refusal :=
  .next (s.goodFrame (servePlaceVehicle body) 0x25#8 tag)

end Sys2Proof.Machine
end

