-- ==== Sys2Proof/Machine/Stations.lean ====
section
/-! DEFINITION. READ STATION, CLOSE STATION and OPEN STATION (R33, R49). -/

namespace Sys2Proof.Machine

/-- R33, R49: a configured station goes on: a bay by the first function, a wash lane by the second. -/
def onStation (body : Bytes) (bay wash : Nat → State → Reply × State) : State → Reply × State :=
  sized 2 body (fun s =>
    let n := at8 body 1
    if !stationKindOk (at8 body 0) then (refuse .malformed, s)
    else if at8 body 0 = 0 then onNumber (fun t => decide (1 ≤ n ∧ n ≤ t.geo.numBays)) (bay n) s
    else onNumber (fun t => decide (1 ≤ n ∧ n ≤ t.geo.numWashes)) (wash n) s)

/-! ### READ STATION -/

/-- R190: an occupant: index, fleet number, vehicle state. With none, index 0xFFFF and fleet number 0 (R189); the
state byte then has no stated value (log entry 9). An occupant that has been directed onward may have been retired before
its CLEAR: its index stands, the fleet number is 0 as for none, and the state byte has no stated value. Where a later ENROL has
taken that index again (R3), the fleet number and the state of the new record are answered; the spec is silent on both (log
entry 62). -/
def occupantBytes (s : State) (occupant : Option Nat) : Bytes :=
  match occupant with
  | some v =>
    match s.vehicle? v with
    | some r => be16 v ++ be16 r.fleet ++ be8 (stateCode r.state)
    | none => be16 v ++ be16 0 ++ unstated 0 1
  | none => be16 0xFFFF ++ be16 0 ++ unstated 0 1
/-- R33, R190: a bay as read. -/
def bayBytes (s : State) (b : Nat) : Bytes :=
  let r := s.bay b
  be8 (bayKindCode (s.geo.bay b).kind) ++ be8 (bayStateCode r.state) ++ flag r.closing ++ occupantBytes s r.occupant
/-- R49, R190: a wash queue entry as read: program HEAVY 1. -/
def washEntryBytes (s : State) (e : WashEntry) : Bytes :=
  be16 e.vehicle ++ be16 (s.fleetOf e.vehicle) ++ be8 (stateCode (s.vehicle e.vehicle).state) ++ flag e.heavy ++
  flag e.directed.isSome
/-- R49, R190: a wash lane as read. The Kind byte: 12.4 gives kinds for bays alone; the model answers 1, the station kind
of a wash lane (log entry 63). -/
def washBytes (s : State) (l : Nat) : Bytes :=
  let r := s.wash l
  be8 1 ++ be8 (washStateCode r.state) ++ flag r.closing ++ occupantBytes s r.occupant ++
  be8 r.queue.length ++ r.queue.flatMap (washEntryBytes s)
/-- R33, R49: READ STATION. -/
def serveReadStation (body : Bytes) : State → Reply × State :=
  onStation body
    (fun b s =>
      let t := s.reading (fun u => stationSettings :: (u.bay b).occupant.toList)
      (done (bayBytes t b), t))
    (fun l s =>
      let t := s.reading (fun u => (u.wash l).occupant.toList ++ (u.wash l).queue.map (·.vehicle))
      (done (washBytes t l), t))

/-! ### CLOSE STATION and OPEN STATION -/

/-- R33: a bay is closed. -/
def State.closeBay (s : State) (b : Nat) : State :=
  match (s.bay b).state with
  | .free => s.updBay b (fun r => { r with state := .closed, closing := false })
  | .closed => s
  | .awaiting | .serving | .finished | .faulted => s.updBay b (fun r => { r with closing := true })
/-- R49: a wash lane is closed. -/
def State.closeWash (s : State) (l : Nat) : State :=
  match (s.wash l).state with
  | .closed => s
  | .idle =>
    if (s.wash l).queue.isEmpty then s.updWash l (fun r => { r with state := .closed, closing := false })
    else s.updWash l (fun r => { r with closing := true })
  | .washing | .faulted => s.updWash l (fun r => { r with closing := true })
/-- R33, R49: CLOSE STATION. -/
def serveCloseStation (body : Bytes) : State → Reply × State :=
  onStation body (fun b s => (done [], s.closeBay b)) (fun l s => (done [], s.closeWash l))
/-- R33, R34: a bay is opened; one that becomes FREE is offered to the pad. -/
def State.openBay (s : State) (b : Nat) : State :=
  match (s.bay b).state with
  | .closed => (s.updBay b (fun r => { r with state := .free })).offerBay b
  | .free | .awaiting | .serving | .finished | .faulted => s.updBay b (fun r => { r with closing := false })
/-- R49: a wash lane is opened. -/
def State.openWash (s : State) (l : Nat) : State :=
  match (s.wash l).state with
  | .closed => s.updWash l (fun r => { r with state := .idle })
  | .idle | .washing | .faulted => s.updWash l (fun r => { r with closing := false })
/-- R33, R49, R171: OPEN STATION; a bay that becomes FREE reads the pad. -/
def serveOpenStation (body : Bytes) : State → Reply × State :=
  onStation body (fun b s =>
    let t := if (s.bay b).state = .closed then s.reading State.padReads else s
    (done [], t.openBay b)) (fun l s => (done [], s.openWash l))

/-! ### The commands -/

/-- READ STATION, 0x26 (R33, R49). -/
def execReadStation (tag : Byte) (body : Bytes) (s : State) : Host.Outcome State Fault Refusal :=
  .next (s.goodFrame (serveReadStation body) 0x26#8 tag)
/-- CLOSE STATION, 0x27 (R33, R49). -/
def execCloseStation (tag : Byte) (body : Bytes) (s : State) : Host.Outcome State Fault Refusal :=
  .next (s.goodFrame (serveCloseStation body) 0x27#8 tag)
/-- OPEN STATION, 0x28 (R33, R49). -/
def execOpenStation (tag : Byte) (body : Bytes) (s : State) : Host.Outcome State Fault Refusal :=
  .next (s.goodFrame (serveOpenStation body) 0x28#8 tag)

end Sys2Proof.Machine
end

