-- ==== Sys2Proof/Machine/EnergyRequests.lean ====
section
/-! DEFINITION. SET BUDGET, READ ENERGY, READ SESSION, STOP SESSION and RESUME SESSION (R96, R100 to R102). -/

namespace Sys2Proof.Machine

/-- R77: a point is configured. -/
def State.hasPoint (s : State) (p : Nat) : Bool := decide (1 ≤ p ∧ p ≤ s.geo.numPoints)
/-- R100 to R102: a configured point goes on; any other number is NOT-FOUND. -/
def onPoint (body : Bytes) (serve : Nat → State → Reply × State) : State → Reply × State :=
  sized 1 body (onNumber (fun s => s.hasPoint (at8 body 0)) (serve (at8 body 0)))

/-! ### SET BUDGET (R96) -/

/-- R96: SET BUDGET. -/
def serveSetBudget (body : Bytes) : State → Reply × State :=
  sized 2 body (fun s =>
    let kw := at16 body 0
    let t := s.reading State.budgetReads
    (done (be16 (min kw t.beh.contract)), t.refreshBudget kw .host))

/-! ### READ ENERGY (R102) -/

/-- R102: the open sessions. -/
def State.openSessions (s : State) : List Session := s.pointNums.filterMap s.session
/-- R102: the number of open sessions in a grade. -/
def State.gradeCount (s : State) (g : Grade) : Nat := countOf (fun x => x.grade == some g) s.openSessions
/-- R102: the sum of the grants in force. -/
def State.grantSum (s : State) : Nat := (s.openSessions.map (·.grant)).foldl (· + ·) 0
/-- R102, R190: the body of READ ENERGY. -/
def energyBytes (s : State) : Bytes :=
  let b := s.energy.budget
  be8 (if b.fresh then 0 else 1) ++ be16? (b.last.map (·.1)) ++ be8 (sourceCode (b.last.map (·.2))) ++
  time? b.deadline ++ be16 s.effective ++ be16 s.beh.fallback ++ be16 s.grantSum ++
  be8 (s.gradeCount .onTrack) ++ be8 (s.gradeCount .waiting) ++ be8 (s.gradeCount .unreachable) ++
  be8 (s.gradeCount .complete) ++ be8 (countOf (·.capped) s.openSessions) ++ be8 (countOf (·.short) s.openSessions) ++
  be8 (countOf (·.incompat) s.openSessions)
/-- R102, R171: what READ ENERGY reads: the behavioural settings, the number of points and every session. -/
def State.sumReads (s : State) : List Nat :=
  partReads ++ (s.pointNums.filter (fun p => (s.session p).isSome)).map sessionRecord
/-- R102: READ ENERGY. -/
def serveReadEnergy (body : Bytes) : State → Reply × State :=
  sized 0 body (fun s =>
    let t := s.reading State.sumReads
    (done (energyBytes t), t))

/-! ### READ SESSION (R102) -/

/-- R192: the flags of a session. -/
def sessionFlags (x : Session) : Nat :=
  (if x.capped then 1 else 0) + (if x.short then 2 else 0) + (if x.incompat then 4 else 0)
/-- R190: a session record. With none, index 0xFFFF, fleet number 0 and the opening time absent (R189), and the grade
0xFF (R192); the other bytes then have no stated value (log entry 9). -/
def sessionBytes (s : State) (x : Option Session) : Bytes :=
  match x with
  | some r =>
    be16 r.vehicle ++ be16 (s.fleetOf r.vehicle) ++ be16 r.startSoe ++ be16 r.delivered ++ be16 r.requirement ++
    be16 r.target ++ be16 r.deadline ++ be32 r.opened ++ be16 r.grant ++ be8 (gradeCode r.grade) ++
    be8 (sessionFlags r) ++ be16 r.n ++ be16 r.m ++ be16 r.c ++ be16 r.q
  | none =>
    be16 0xFFFF ++ be16 0 ++ unstated 1 10 ++ be32 0xFFFFFFFF ++ unstated 11 2 ++ be8 0xFF ++ unstated 13 9
/-- R190: the reported acceptance; with none reported it has no stated value (log entry 9). -/
def acceptBytes (x : Option Nat) : Bytes :=
  match x with
  | some a => be16 a
  | none => unstated 22 2
/-- R102, R190: the body of READ SESSION. -/
def pointBytes (s : State) (p : Nat) : Bytes :=
  let g := s.geo.point p
  let r := s.point p
  be8 g.cabinet ++ be8 g.lane ++ be8 g.pos ++ be16 g.rating ++ be16 g.pmin ++ be8 (pointStateCode r.state) ++
  be8 (condCode r.cond) ++ be16? r.stop ++ be16 r.counter ++ acceptBytes r.accept ++ be16? r.held ++
  be16? r.issued ++ be8 (gradeCode r.waiting) ++ flag r.session.isSome ++ sessionBytes s r.session
/-- R102, R171: READ SESSION; a session record found damaged by the check is answered DAMAGED. -/
def serveReadSession (body : Bytes) : State → Reply × State :=
  onPoint body (fun p s =>
    let t := s.checkRecord (sessionRecord p)
    if s.findsDamage (sessionRecord p) && (s.session p).isSome then (refuse .damaged, t)
    else
      let u := t.reading (fun x => pointSettings p :: ((x.session p).map (·.vehicle)).toList)
      (done (pointBytes u p), u))

/-! ### STOP SESSION and RESUME SESSION (R100, R101) -/

/-- R100: the check of STOP SESSION at a configured point: a vehicle is PARKED at its bound position. -/
def stopCheck (p : Nat) : Check :=
  { reads := State.boundReads p
    refusal := fun s => if (s.parkedAt p).isNone then some (refuse .wrongState) else none }
/-- R100: a point that is marked already for the vehicle there. -/
def State.stoppedFor (s : State) (p : Nat) : Bool := (s.point p).stop == s.parkedAt p
/-- R99, R100: a point's stop mark is set to the vehicle there, and an open session ends. -/
def State.stopPoint (s : State) (p : Nat) : State :=
  if s.stoppedFor p then s else (s.updPoint p (fun r => { r with stop := s.parkedAt p })).endSession p
/-- R100, R171: STOP SESSION at a configured point: the vehicle there is read, then a session that is open, with the
allocation that its end triggers. -/
def stopAt (p : Nat) : State → Reply × State :=
  checked [stopCheck p] (fun t => if (t.session p).isSome && !t.stoppedFor p then t.energyReads else [])
    (fun t => (done [], t.stopPoint p))
/-- R100: STOP SESSION. -/
def serveStopSession (body : Bytes) : State → Reply × State := onPoint body stopAt
/-- R101: a point with no stop mark. -/
def State.resumeRefusal (s : State) (p : Nat) : Option Reply :=
  if (s.point p).stop.isNone then some (refuse .wrongState) else none
/-- R101: a stop mark is dropped, and the opening check is made. -/
def State.resumePoint (s : State) (p : Nat) : State := (s.updPoint p (fun r => { r with stop := none })).openingCheck p
/-- R101, R171: RESUME SESSION at a configured point. -/
def resumeAt (p : Nat) : State → Reply × State :=
  judged (fun t => t.resumeRefusal p) (State.openingReads p) (fun t => (done [], t.resumePoint p))
/-- R101: RESUME SESSION. -/
def serveResumeSession (body : Bytes) : State → Reply × State := onPoint body resumeAt

/-! ### The commands -/

/-- SET BUDGET, 0x40 (R96). -/
def execSetBudget (tag : Byte) (body : Bytes) (s : State) : Host.Outcome State Fault Refusal :=
  .next (s.goodFrame (serveSetBudget body) 0x40#8 tag)
/-- READ ENERGY, 0x41 (R102). -/
def execReadEnergy (tag : Byte) (body : Bytes) (s : State) : Host.Outcome State Fault Refusal :=
  .next (s.goodFrame (serveReadEnergy body) 0x41#8 tag)
/-- READ SESSION, 0x42 (R102). -/
def execReadSession (tag : Byte) (body : Bytes) (s : State) : Host.Outcome State Fault Refusal :=
  .next (s.goodFrame (serveReadSession body) 0x42#8 tag)
/-- STOP SESSION, 0x43 (R100). -/
def execStopSession (tag : Byte) (body : Bytes) (s : State) : Host.Outcome State Fault Refusal :=
  .next (s.goodFrame (serveStopSession body) 0x43#8 tag)
/-- RESUME SESSION, 0x44 (R101). -/
def execResumeSession (tag : Byte) (body : Bytes) (s : State) : Host.Outcome State Fault Refusal :=
  .next (s.goodFrame (serveResumeSession body) 0x44#8 tag)

end Sys2Proof.Machine
end

