-- ==== Sys2Proof/Machine/RosterRequests.lean ====
section
/-! DEFINITION. The roster requests (R114, R120 to R129). -/

namespace Sys2Proof.Machine

/-! ### Plans (R104, R120, R170) -/

/-- R120: the two plans. -/
inductive Plan where
  | active | staged
  deriving DecidableEq, Repr
/-- R192: the plan a code names. -/
def planOf (n : Nat) : Option Plan := if n = 0 then some .active else if n = 1 then some .staged else none
/-- R192: a plan's code. -/
def planCode : Plan → Nat
  | .active => 0 | .staged => 1
/-- R104: the slots of a plan. -/
def State.plan (s : State) : Plan → List Slot
  | .active => s.roster.active
  | .staged => s.roster.staged
/-- A plan's slots become `xs`. -/
def State.setPlan (s : State) (p : Plan) (xs : List Slot) : State :=
  match p with
  | .active => s.setActive xs
  | .staged => s.setStaged xs
/-- A slot of a plan changed by `f`. -/
def State.updPlanSlot (s : State) (p : Plan) (n : Nat) (f : Slot → Slot) : State :=
  s.setPlan p (updSlotIn (s.plan p) n f)
/-- R170: the lowest free place in the slot banks (log entry 14). -/
def State.freeRecord (s : State) : Nat :=
  ((List.range 640).find? (fun i =>
    !(s.roster.active ++ s.roster.staged).any (fun x => x.record == slotRecord i))).elim 0 slotRecord
/-- R120: the plan a body names first goes on; a code that names neither is MALFORMED. -/
def onPlan (len : Nat) (body : Bytes) (serve : Plan → State → Reply × State) : State → Reply × State :=
  sized len body (fun s =>
    match planOf (at8 body 0) with
    | some p => serve p s
    | none => (refuse .malformed, s))
/-- R120: the slot of that number as the plan holds it now goes on; NOT-FOUND for none in the plan. -/
def withSlot (p : Plan) (n : Nat) (serve : Slot → State → Reply × State) (s : State) : Reply × State :=
  match slotIn (s.plan p) n with
  | some x => serve x s
  | none => (refuse .notFound, s)
/-- R171: a slot's record is checked as it is read. -/
def State.checkSlot (s : State) (p : Plan) (n : Nat) : State :=
  match slotIn (s.plan p) n with
  | some x => s.checkRecord x.record
  | none => s
/-- R120, R171: the slot a request names, its record checked as it is read. -/
def onSlot (n : Nat) (serve : Plan → Slot → State → Reply × State) (p : Plan) (s : State) : Reply × State :=
  withSlot p n (serve p) (s.checkSlot p n)
/-- R157: one of a request's own checks on a slot. -/
structure SlotCheck where
  reads   : Slot → State → List Nat
  refusal : Slot → State → Option Reply

/-- R157: a check of a slot that reads no further record. -/
def SlotCheck.unread (refusal : Slot → State → Option Reply) : SlotCheck := { reads := fun _ _ => [], refusal := refusal }
/-- R120, R157: a check of the slot of that number, as the plan holds it by then. -/
def SlotCheck.inPlan (c : SlotCheck) (p : Plan) (n : Nat) : Check :=
  { reads := fun s => (slotIn (s.plan p) n).elim [] (fun x => c.reads x s)
    refusal := fun s => (slotIn (s.plan p) n).elim (some (refuse .notFound)) (fun x => c.refusal x s) }
/-- R157, R171: a request on a slot makes its checks in order; one that passes has the records its effect reads checked, and is
carried out on the slot as those checks left it. -/
def checkedSlot (p : Plan) (n : Nat) (checks : List SlotCheck) (reads : Slot → State → List Nat)
    (act : Slot → State → State) : State → Reply × State :=
  checked (checks.map (fun c => c.inPlan p n)) (fun s => (slotIn (s.plan p) n).elim [] (fun x => reads x s))
    (fun s => (done [], (slotIn (s.plan p) n).elim s (fun x => act x s)))

/-- R17, R171: what a change of a slot is passed on to: in the active plan the vehicle it holds. -/
def State.heldReads (p : Plan) (x : Slot) (s : State) : List Nat :=
  match p with
  | .active => (x.assigned.map (·.1)).toList.flatMap (fun v => s.keyReads v ++ s.callReads v)
  | .staged => []

/-! ### ADD SLOT (R121) -/

/-- R103, R190: the fields the host sets in a slot. -/
structure SlotFields where
  release     : Nat
  duty        : Nat
  bodies      : Nat
  drives      : Nat
  requirement : Nat
  gate        : Nat
  deriving DecidableEq, Repr
/-- R190: the fields at an offset. -/
def slotFieldsAt (b : Bytes) (i : Nat) : SlotFields :=
  { release := at16 b i, duty := at16 b (i + 2), bodies := at8 b (i + 4), drives := at8 b (i + 5),
    requirement := at16 b (i + 6), gate := at8 b (i + 8) }
/-- R121, R122: the named fields are well formed (bits in the order of R121's fields). -/
def SlotFields.wellFormed (x : SlotFields) (mask : Nat) : Bool :=
  (!bitAt mask 1 || x.duty != 0) && (!bitAt mask 2 || bodySetOk x.bodies) && (!bitAt mask 3 || driveSetOk x.drives)
/-- R121, R122: the named fields are in range. -/
def SlotFields.inRange (x : SlotFields) (mask : Nat) : Bool :=
  (!bitAt mask 0 || decide (x.release < Config.dayMinutes)) && (!bitAt mask 4 || decide (x.requirement ≤ 9999)) &&
  (!bitAt mask 5 || decide (1 ≤ x.gate ∧ x.gate ≤ 4))
/-- R121, R122: a gate is configured OUT or BOTH. -/
def State.leavesBy (s : State) (gate : Nat) : Bool :=
  (s.geo.gate gate).dir == .outward || (s.geo.gate gate).dir == .both
/-- R121: the mask that names every field. -/
def allFields : Nat := 0x3F
/-- R121: the first check that fails, but for that of the exit gate. -/
def State.addRefusal (s : State) (p : Plan) (n : Nat) (x : SlotFields) : Option Status :=
  if !x.wellFormed allFields then some .malformed
  else if !(decide (1 ≤ n ∧ n ≤ Config.maxSlots) && x.inRange allFields) then some .outOfRange
  else if Config.maxSlots ≤ (s.plan p).length then some .full
  else if (slotIn (s.plan p) n).isSome then some .conflict
  else none
/-- R121, R122: the check of an exit gate, which reads the gates' record. -/
def gateCheck (gate : Nat) : Check :=
  { reads := fun _ => [settingsRecord 1], refusal := fun s => if s.leavesBy gate then none else some (refuse .conflict) }
/-- R121: the checks of ADD SLOT; the last alone reads a record. -/
def addChecks (p : Plan) (n : Nat) (x : SlotFields) : List Check :=
  [ .unread (fun s => (s.addRefusal p n x).map refuse), gateCheck x.gate ]
/-- R121: a new slot. -/
def SlotFields.slot (x : SlotFields) (n record : Nat) : Slot :=
  { num := n, release := x.release, duty := x.duty, bodies := BitVec.ofNat 8 x.bodies,
    drives := BitVec.ofNat 8 x.drives, requirement := x.requirement, gate := x.gate, state := .opened,
    assigned := none, last := none, substituted := false, uncalled := false, unconfirmed := false, call := none,
    record := record }
/-- R104, R121: a slot is added in plan order. -/
def State.addSlot (s : State) (p : Plan) (n : Nat) (x : SlotFields) : State :=
  let r := s.freeRecord
  ((s.unmark r).freshen r).setPlan p (insertSlot (x.slot n r) (s.plan p))
/-- R121, R171: ADD SLOT. -/
def serveAddSlot (body : Bytes) : State → Reply × State :=
  let n := at16 body 1
  let x := slotFieldsAt body 3
  onPlan 12 body (fun p => checked (addChecks p n x) (fun _ => []) (fun t => (done [], t.addSlot p n x)))

/-! ### AMEND SLOT (R122) -/

/-- R122: the slot with the named fields changed. -/
def SlotFields.amend (x : SlotFields) (mask : Nat) (y : Slot) : Slot :=
  { y with
    release := if bitAt mask 0 then x.release else y.release
    duty := if bitAt mask 1 then x.duty else y.duty
    bodies := if bitAt mask 2 then BitVec.ofNat 8 x.bodies else y.bodies
    drives := if bitAt mask 3 then BitVec.ofNat 8 x.drives else y.drives
    requirement := if bitAt mask 4 then x.requirement else y.requirement
    gate := if bitAt mask 5 then x.gate else y.gate }
/-- R103: OPEN or ASSIGNED. -/
def Slot.editable (x : Slot) : Bool := x.state == .opened || x.state == .assigned
/-- R122: the assigned vehicle, where its record is live under that fleet number, fits the sets. -/
def State.fitsAssigned (s : State) (y : Slot) : Bool :=
  y.assigned.all (fun a => (s.vehicle? a.1).all (fun r => r.fleet != a.2 || y.accepts r))
/-- R122: the second and the third check, which read the slot alone. -/
def SlotFields.amendForbids (x : SlotFields) (mask : Nat) (y : Slot) : Option Status :=
  if !y.editable then some .wrongState
  else if !x.inRange mask then some .outOfRange
  else none
/-- R122: a set of the slot is named. -/
def namesSet (mask : Nat) : Bool := bitAt mask 2 || bitAt mask 3
/-- R122: the checks of AMEND SLOT from the second on: the fourth reads the gates' record where a gate is named, and the
assigned vehicle's where a set is. -/
def SlotFields.amendChecks (x : SlotFields) (mask : Nat) : List SlotCheck :=
  [ .unread (fun y _ => (x.amendForbids mask y).map refuse),
    { reads := fun _ s => if bitAt mask 5 then (gateCheck x.gate).reads s else []
      refusal := fun _ s => if bitAt mask 5 then (gateCheck x.gate).refusal s else none },
    { reads := fun y _ => if namesSet mask then (y.assigned.map (·.1)).toList else []
      refusal := fun y s => if namesSet mask && !s.fitsAssigned (x.amend mask y) then some (refuse .conflict) else none } ]
/-- R104, R122: an amended slot takes its place in the plan; in the active plan a changed release minute or
requirement is passed on. -/
def State.amendSlot (s : State) (p : Plan) (y y' : Slot) : State :=
  let s1 := s.setPlan p (insertSlot y' ((s.plan p).filter (fun z => z.num != y.num)))
  match p, y.assigned with
  | .active, some (v, _) =>
    if y'.release = y.release ∧ y'.requirement = y.requirement then s1 else s1.passOn [v]
  | _, _ => s1
/-- R122: AMEND SLOT. A mask bit that names no field is MALFORMED. R120 and R122 do not say whether the first check of R122
goes before NOT-FOUND: it does, as it does for ASSIGN (R123; log entry 72). -/
def serveAmendSlot (body : Bytes) : State → Reply × State :=
  let mask := at8 body 3
  let x := slotFieldsAt body 4
  onPlan 13 body (fun p s =>
    if 0x40 ≤ mask ∨ x.wellFormed mask = false then (refuse .malformed, s)
    else onSlot (at16 body 1) (fun p y =>
      checkedSlot p y.num (x.amendChecks mask) (fun z t =>
        let y' := x.amend mask z
        if y'.release = z.release ∧ y'.requirement = z.requirement then [] else State.heldReads p z t)
        (fun z t => if mask = 0 then t else t.amendSlot p z (x.amend mask z))) p s)

/-! ### CANCEL SLOT (R125) -/

/-- R110, R125: a slot that is not finished is cancelled. -/
def State.cancelSlot (s : State) (p : Plan) (x : Slot) : State :=
  match p with
  | .staged => s.updPlanSlot .staged x.num (fun y => y.finish .cancelled)
  | .active =>
    match x.assigned with
    | none => s.updSlot x.num (fun y => y.finish .cancelled)
    | some (v, _) =>
      let s1 := match x.call with
        | some c => s.withdrawStanding x.num v c
        | none => s
      ((s1.updSlot x.num (fun y => y.finish .cancelled)).setAssignment v none).passOn [v]
/-- R125: a slot that cannot be cancelled: finished, or CALLED with its vehicle at APRON. -/
def State.cancelRefused (s : State) (x : Slot) : Bool :=
  match x.state with
  | .opened | .assigned => false
  | .called => x.assigned.any (fun a => (s.vehicle a.1).loc == .apron)
  | .gone | .missed | .cancelled => true
/-- R125: the check of CANCEL SLOT: the vehicle of a CALLED slot is read. -/
def cancelCheck : SlotCheck :=
  { reads := fun x _ => if x.state = .called then (x.assigned.map (·.1)).toList else []
    refusal := fun x s => if s.cancelRefused x then some (refuse .wrongState) else none }
/-- R125, R171: CANCEL SLOT; damage that its check finds in the vehicle of a CALLED slot is dealt with before the slot is
judged. -/
def serveCancelSlot (body : Bytes) : State → Reply × State :=
  onPlan 3 body (onSlot (at16 body 1) (fun p x =>
    checkedSlot p x.num [cancelCheck] (State.heldReads p) (fun y t => t.cancelSlot p y)))

/-! ### ASSIGN and UNASSIGN (R123, R124) -/

/-- R123: the vehicle is assigned to another slot of the plan. -/
def State.assignedElsewhere (s : State) (p : Plan) (n v fleet : Nat) : Bool :=
  match p with
  | .active => (s.vehicle v).assignment.any (· != n)
  | .staged => s.roster.staged.any (fun y => y.num != n && y.assigned == some (v, fleet))
/-- R123: what the sixth check reads further: whether a slot of the staged plan names the vehicle already. -/
def State.elsewhereReads (s : State) (p : Plan) : List Nat :=
  match p with
  | .active => []
  | .staged => s.roster.staged.map (·.record)
/-- R123: checks 4 to 6: the slot; the record of a live index, and its mark; the slot's own vehicle; the other slots of the
plan, and the sets. -/
def assignChecks (p : Plan) (v fleet : Nat) : List SlotCheck :=
  [ .unread (fun x _ => if x.editable then none else some (refuse .wrongState)),
    { reads := fun _ s => if (s.vehicle? v).isSome then [v] else []
      refusal := fun _ s => if (s.vehicle? v).any (fun r => r.fleet == fleet) then none else some (refuse .wrongState) },
    .unread (fun _ s => if s.damaged v then some (refuse .damaged) else none),
    .unread (fun x _ => if x.assigned.any (· != (v, fleet)) then some (refuse .conflict) else none),
    { reads := fun _ s => s.elsewhereReads p
      refusal := fun x s =>
        if s.assignedElsewhere p x.num v fleet || !x.accepts (s.vehicle v) then some (refuse .conflict) else none } ]
/-- R105, R123: an assignment is made. -/
def State.assign (s : State) (p : Plan) (x : Slot) (v fleet : Nat) : State :=
  let s1 := s.updPlanSlot p x.num (fun y => y.give v fleet false)
  match p with
  | .active => (s1.setAssignment v (some x.num)).passOn [v]
  | .staged => s1
/-- R17, R171: what an assignment is passed on to. -/
def State.assignReads (s : State) (p : Plan) (v : Nat) : List Nat :=
  match p with
  | .active => s.keyReads v
  | .staged => []
/-- R123: ASSIGN. -/
def serveAssign (body : Bytes) : State → Reply × State :=
  let v := at16 body 3
  let fleet := at16 body 5
  onPlan 7 body (fun p s =>
    if fleet = 0 then (refuse .malformed, s)
    else if Config.maxVehicles ≤ v then (refuse .outOfRange, s)
    else onSlot (at16 body 1) (fun p x =>
      checkedSlot p x.num (assignChecks p v fleet)
        (fun y t => if y.assigned = some (v, fleet) then [] else t.assignReads p v)
        (fun y t => if y.assigned = some (v, fleet) then t else t.assign p y v fleet)) p s)
/-- R124: an ASSIGNED slot loses its vehicle. -/
def State.unassign (s : State) (p : Plan) (x : Slot) : State :=
  let s1 := s.updPlanSlot p x.num Slot.opened
  match p, x.assigned with
  | .active, some (v, _) => (s1.setAssignment v none).passOn [v]
  | _, _ => s1
/-- R124: a slot that is finished or CALLED keeps its vehicle. -/
def unassignCheck : SlotCheck := .unread (fun x _ => if x.editable then none else some (refuse .wrongState))
/-- R124: UNASSIGN; an OPEN slot stands as it is. -/
def serveUnassign (body : Bytes) : State → Reply × State :=
  onPlan 3 body (onSlot (at16 body 1) (fun p x =>
    checkedSlot p x.num [unassignCheck] (fun y t => if y.state = .assigned then State.heldReads p y t else [])
      (fun y t => if y.state = .assigned then t.unassign p y else t)))

/-! ### READ SLOT (R129) -/

/-- R129: READ SLOT; a damaged slot is answered DAMAGED; the active plan reads READY 0. -/
def serveReadSlot (body : Bytes) : State → Reply × State :=
  onPlan 3 body (onSlot (at16 body 1) (fun p x s =>
    if s.marked x.record then (refuse .damaged, s)
    else (done (slotBytes (planCode p) x (p == .staged && s.roster.ready)), s)))

/-! ### The staged plan (R126, R127) -/

/-- R126: the staged plan is emptied and READY clears. -/
def State.clearStaged (s : State) : State :=
  let s1 := s.freeSlots s.roster.staged
  { s1 with roster := { s1.roster with staged := [], ready := false } }
/-- R126: CLEAR STAGED. -/
def serveClearStaged (body : Bytes) : State → Reply × State := sized 0 body (fun s => (done [], s.clearStaged))
/-- R126: READY is set or cleared. -/
def State.setReady (s : State) (ready : Bool) : State := { s with roster := { s.roster with ready := ready } }
/-- R126: MARK STAGED. -/
def serveMarkStaged (body : Bytes) : State → Reply × State :=
  sized 1 body (fun s =>
    if at8 body 0 < 2 then (done [], s.setReady (at8 body 0 == 1)) else (refuse .malformed, s))
/-- R127: the check of COMMIT PLAN on a slot of the active plan. -/
def commitCheck (x : Slot) : Check :=
  { reads := fun _ => [x.record]
    refusal := fun s => if (s.slot x.num).any (fun y => y.state == .called) then some (refuse .wrongState) else none }
/-- R127, R171: COMMIT PLAN; the slots of the active plan are read up to the first that is CALLED. -/
def serveCommitPlan (body : Bytes) : State → Reply × State :=
  sized 0 body (fun s =>
    checked (s.roster.active.map commitCheck) State.rollReads
      (fun t => (done (be16 t.roster.staged.length ++ be16 t.openedByCommit), t.commit)) s)

/-! ### CALL NOW (R114) -/

/-- R107, R114: the refusal that carries the reason of the condition that fails. -/
def blockedBy (why : Reason) : Reply := { status := .wrongState, body := be8 (reasonCode (some why)) }
/-- R114: the checks of CALL NOW on the slot: that it is ASSIGNED; condition 1 of R107, which reads the vehicle; the conditions
2 to 5, which read the lane it is PARKED in. -/
def callNowChecks : List SlotCheck :=
  [ .unread (fun x _ => if x.state = .assigned ∧ x.assigned.isSome then none else some (refuse .wrongState)),
    { reads := fun x _ => (x.assigned.map (·.1)).toList
      refusal := fun x s => x.assigned.bind (fun a =>
        if (s.vehicle a.1).waits then none else some (blockedBy .absent)) },
    { reads := fun x s => (x.assigned.map (·.1)).toList.flatMap s.ownLaneReads
      refusal := fun x s => x.assigned.bind (fun a => (s.ineligible a.1 x false).map blockedBy) } ]
/-- R109, R114, R171: CALL NOW for a slot of the active plan. -/
def callNow (n : Nat) : State → Reply × State :=
  checkedSlot .active n callNowChecks (fun x s => (x.assigned.map (·.1)).toList.flatMap s.startReads)
    (fun x s => x.assigned.elim s (fun a => s.callVehicle x.num a.1))
/-- R114: CALL NOW. -/
def serveCallNow (body : Bytes) : State → Reply × State :=
  sized 2 body (fun s =>
    if s.mode.charges && s.clock.isSet then onSlot (at16 body 0) (fun _ x => callNow x.num) .active s
    else (refuse .wrongState, s))

/-! ### LIST DUE (R129) -/

/-- R129: a slot that LIST DUE lists. -/
def State.listed (s : State) (x : Slot) : Bool := s.due x || x.state == .called
/-- R129: the slots that are due or CALLED, in plan order, with those that stood so in `before` and that the read of this
request has found damaged, and so CANCELLED (R130; log entry 64). -/
def State.dueList (before s : State) : List Slot :=
  s.roster.active.filter (fun x =>
    s.listed x || (s.marked x.record && !before.marked x.record && (before.slot x.num).any before.listed))
/-- R129, R190: an entry of LIST DUE; a damaged slot gives its number and state alone, and the other bytes have no stated
value (log entry 9). -/
def dueBytes (s : State) (x : Slot) : Bytes :=
  if s.marked x.record then be16 x.num ++ unstated 31 2 ++ be8 (slotStateCode x.state) ++ unstated 33 3
  else
    let why := match x.state, x.assigned with
      | .assigned, some (v, _) => s.ineligible v x true
      | _, _ => none
    be16 x.num ++ be16 x.release ++ be8 (slotStateCode x.state) ++ be16 ((x.assigned.map (·.2)).getD 0) ++
    be8 (reasonCode why)
/-- R129, R171: what LIST DUE reads: the lead time, the active slots, and the vehicles of those due with the lanes they are PARKED
in. -/
def State.listReads (s : State) : List Nat :=
  settingsRecord 0 :: s.roster.active.map (·.record) ++
  ((s.roster.active.filter s.due).filterMap (·.assigned)).flatMap (fun a => a.1 :: s.ownLaneReads a.1)
/-- R129: LIST DUE. -/
def serveListDue (body : Bytes) : State → Reply × State :=
  sized 0 body (fun s =>
    let t := s.reading State.listReads
    let due := State.dueList s t
    (done (be16 due.length ++ (due.take 8).flatMap (dueBytes t)), t))

/-! ### The commands -/

/-- ADD SLOT, 0x60 (R121). -/
def execAddSlot (tag : Byte) (body : Bytes) (s : State) : Host.Outcome State Fault Refusal :=
  .next (s.goodFrame (serveAddSlot body) 0x60#8 tag)
/-- AMEND SLOT, 0x61 (R122). -/
def execAmendSlot (tag : Byte) (body : Bytes) (s : State) : Host.Outcome State Fault Refusal :=
  .next (s.goodFrame (serveAmendSlot body) 0x61#8 tag)
/-- CANCEL SLOT, 0x62 (R125). -/
def execCancelSlot (tag : Byte) (body : Bytes) (s : State) : Host.Outcome State Fault Refusal :=
  .next (s.goodFrame (serveCancelSlot body) 0x62#8 tag)
/-- ASSIGN, 0x63 (R123). -/
def execAssign (tag : Byte) (body : Bytes) (s : State) : Host.Outcome State Fault Refusal :=
  .next (s.goodFrame (serveAssign body) 0x63#8 tag)
/-- UNASSIGN, 0x64 (R124). -/
def execUnassign (tag : Byte) (body : Bytes) (s : State) : Host.Outcome State Fault Refusal :=
  .next (s.goodFrame (serveUnassign body) 0x64#8 tag)
/-- READ SLOT, 0x65 (R129). -/
def execReadSlot (tag : Byte) (body : Bytes) (s : State) : Host.Outcome State Fault Refusal :=
  .next (s.goodFrame (serveReadSlot body) 0x65#8 tag)
/-- CLEAR STAGED, 0x66 (R126). -/
def execClearStaged (tag : Byte) (body : Bytes) (s : State) : Host.Outcome State Fault Refusal :=
  .next (s.goodFrame (serveClearStaged body) 0x66#8 tag)
/-- MARK STAGED, 0x67 (R126). -/
def execMarkStaged (tag : Byte) (body : Bytes) (s : State) : Host.Outcome State Fault Refusal :=
  .next (s.goodFrame (serveMarkStaged body) 0x67#8 tag)
/-- COMMIT PLAN, 0x68 (R127). -/
def execCommitPlan (tag : Byte) (body : Bytes) (s : State) : Host.Outcome State Fault Refusal :=
  .next (s.goodFrame (serveCommitPlan body) 0x68#8 tag)
/-- CALL NOW, 0x69 (R114). -/
def execCallNow (tag : Byte) (body : Bytes) (s : State) : Host.Outcome State Fault Refusal :=
  .next (s.goodFrame (serveCallNow body) 0x69#8 tag)
/-- LIST DUE, 0x6A (R129). -/
def execListDue (tag : Byte) (body : Bytes) (s : State) : Host.Outcome State Fault Refusal :=
  .next (s.goodFrame (serveListDue body) 0x6A#8 tag)

end Sys2Proof.Machine
end

