-- ==== Sys2Proof/Machine/PartRequests.lean ====
section
/-! DEFINITION. The part requests: clock, settings, notices, faults, modes, identity, nodes (R148, R162, R163, R168,
R182 to R187). -/

namespace Sys2Proof.Machine

/-! ### The clock (R185) -/

/-- R185, R190: READ CLOCK. -/
def serveReadClock (body : Bytes) : State → Reply × State :=
  sized 0 body (fun s =>
    (done (flag s.clock.isSet ++ be16 s.clock.day ++ be16 s.clock.minute ++ be8 s.clock.seconds), s))
/-- R185: SET CLOCK. -/
def serveSetClock (body : Bytes) : State → Reply × State :=
  sized 4 body (fun s =>
    if Config.dayMinutes ≤ at16 body 2 then (refuse .outOfRange, s)
    else (done [], s.setClockTo (at16 body 0) (at16 body 2)))

/-! ### The settings (R186, R187) -/

/-- R170: the place of bank 35 that holds a key. -/
def placeOf (k : Key) : Nat := ((upTo 0 27).find? (fun n => (keysAt n).contains k)).getD 0
/-- R186: the key a body names goes on; one that names no setting is NOT-FOUND. -/
def onKey (len : Nat) (body : Bytes) (serve : Key → State → Reply × State) : State → Reply × State :=
  sized len body (fun s =>
    match keyAt (at8 body 0) (at8 body 1) (at8 body 2) with
    | none => (refuse .notFound, s)
    | some k => serve k s)
/-- R171, R186: READ SETTING; the setting's record is checked as it is read. -/
def serveReadSetting (body : Bytes) : State → Reply × State :=
  onKey 3 body (fun k s =>
    let t := s.checkRecord (settingsRecord (placeOf k))
    (done (body ++ be16 (t.settings.read k)), t))
/-- R186: the first check after the key's that fails. -/
def State.writeRefusal (s : State) (k : Key) (v : Nat) : Option Status :=
  if k.undefinedCode v then some .malformed
  else if k.isGeometry && s.mode != .configure then some .wrongState
  else if s.store.snapshot.isSome then some .busy
  else none
/-- R186: a setting is written, clamped, and the blocks that apply it at once do so. -/
def State.writeSetting (s : State) (k : Key) (v : Nat) : State :=
  (s.writeKey k (clampTo (s.settings.range k) v)).settleSettings s
/-- R84, R98: the behavioural settings that the sessions or the effective budget are formed from: the margin, the reserve, the
default requirement, the fallback and the contract maximum. -/
def energyRows : List Nat := [5, 6, 7, 11, 12]
/-- R84, R171, R186: what a write reads: the setting's record, written within the others it holds, the lanes that bound it,
and the sessions where the setting reaches them. -/
def State.writeReads (k : Key) (s : State) : List Nat :=
  settingsRecord (placeOf k) ::
  (match k with
    | .numLanes => s.laneNums.map laneRecord
    | .laneDepth l => [laneRecord l]
    | .beh row => if energyRows.contains row then s.energyReads else []
    | _ => [])
/-- R171, R186: WRITE SETTING; a refused one reads no record. -/
def serveWriteSetting (body : Bytes) : State → Reply × State :=
  onKey 5 body (fun k =>
    judged (fun t => (t.writeRefusal k (at16 body 3)).map refuse) (State.writeReads k) (fun t =>
      let s' := t.writeSetting k (at16 body 3)
      (done (be16 (s'.settings.read k)), s')))
/-- R171, R187: STORE SETTINGS; the snapshot reads every place of the settings. -/
def serveStoreSettings (body : Bytes) : State → Reply × State :=
  sized 0 body (fun s =>
    if s.store.snapshot.isSome then (refuse .busy, s)
    else
      let t := s.reading (fun _ => settingsReads)
      (done [], { t with store := { t.store with valid := false, snapshot := some t.settings } }))

/-! ### Notices (R162, R163) -/

/-- R162, R190: READ NOTICES. -/
def serveReadNotices (body : Bytes) : State → Reply × State :=
  sized 0 body (fun s =>
    (done (be16 s.notices.pending.toNat ++ be16 s.notices.enables.toNat ++ be16 s.notices.urgents.toNat ++
      be8 ((if s.attnU then 1 else 0) + (if s.attnR then 2 else 0))), s))
/-- R162: the pending flags a mask names are cleared. -/
def State.clearNotices (s : State) (mask : BitVec 16) : State :=
  { s with notices := { s.notices with pending := s.notices.pending &&& ~~~mask } }
/-- R162: CLEAR NOTICES; the mask's bits beyond the sixteen kinds are ignored. -/
def serveClearNotices (body : Bytes) : State → Reply × State :=
  sized 4 body (fun s =>
    let s' := s.clearNotices (BitVec.ofNat 16 (at32 body 0))
    (done (be16 s'.notices.pending.toNat), s'))
/-- R163: the priorities that sixteen codes give, kind 0 first. -/
def prioritiesOf (codes : Bytes) : BitVec 16 :=
  (List.range 16).foldl (fun acc i => if at8 codes i = 1 then acc ||| (1#16 <<< i) else acc) 0#16
/-- R163: SET NOTICE ENABLES. -/
def serveSetNoticeEnables (body : Bytes) : State → Reply × State :=
  sized 18 body (fun s =>
    if (body.drop 2).any (fun c => decide (1 < c.toNat)) then (refuse .malformed, s)
    else (done [], { s with notices := { s.notices with
      enables := BitVec.ofNat 16 (at16 body 0), urgents := prioritiesOf (body.drop 2) } }))

/-! ### Faults (R168) -/

/-- R168, R190: the capture and the summary; an empty capture's time is absent (R189), and its code,
class and subject have no stated value (log entry 9). -/
def captureBytes (f : FaultUnit) : Bytes :=
  (match f.capture with
    | some c => be8 1 ++ be8 c.code.num ++ be8 c.code.cls ++ be16 c.subject ++ time? c.time
    | none => be8 0 ++ unstated 24 4 ++ time? none) ++ be32 f.summary.toNat ++ be8 f.count
/-- R168, R190: a bank's wear. -/
def wearBytes (s : State) (bank : Nat) : Bytes := be8 (s.wear bank).count ++ flag (s.wear bank).worn
/-- R168: READ FAULT. -/
def serveReadFault (body : Bytes) : State → Reply × State :=
  sized 0 body (fun s =>
    (done (captureBytes s.faults ++ (upTo 0 35).flatMap (wearBytes s) ++ spareBytes s.faults.spare), s))
/-- R168: the capture and the summary as the choices leave them. -/
def FaultUnit.choose (f : FaultUnit) (release clear : Bool) : FaultUnit :=
  { f with
    capture := if release then none else f.capture
    summary := if clear then 0#32 else f.summary
    count := if clear then 0 else f.count }
/-- R168: a release that empties a FATAL capture in SAFE. -/
def State.leavesSafe (s : State) (release : Bool) : Bool :=
  release && s.faults.capture.any (fun c => c.code.fatal) && s.mode == .safe
/-- R171, R177, R179: CENSUS or CONFIGURE is entered. The mode changes first; then the records that the entry reads are checked,
so that an M5 found there takes the part on to SAFE (R174) and what the entry ends has ended all the same (log entry 31). The
budget of the new mode is formed before the sessions end (log entry 75). -/
def State.enterCensusOr (s : State) (m : PartMode) : State :=
  (State.reformBudget s ((s.setMode m).reading State.censusReads)).settleEntry m
/-- R168, R180: a release; one that empties a FATAL capture in SAFE moves the part to CENSUS. An M5 that the entry to CENSUS finds
is judged against the capture that the release has emptied (log entry 53). -/
def State.releaseFault (s : State) (release clear : Bool) : State :=
  let t : State := { s with faults := s.faults.choose release clear }
  if s.leavesSafe release then t.enterCensusOr .census else t
/-- R168: RELEASE FAULT; a choice bit that names nothing is MALFORMED. -/
def serveReleaseFault (body : Bytes) : State → Reply × State :=
  sized 1 body (fun s =>
    if 4 ≤ at8 body 0 then (refuse .malformed, s)
    else
      let s' := s.releaseFault (bitAt (at8 body 0) 0) (bitAt (at8 body 0) 1)
      (done (captureBytes s'.faults), s'))

/-! ### Modes (R177, R182, R183) -/

/-- R183: BEGIN CENSUS. -/
def serveBeginCensus (body : Bytes) : State → Reply × State :=
  sized 0 body (fun s =>
    if s.mode = .running then (done [], s.enterCensusOr .census) else (refuse .wrongState, s))
/-- R182: the lanes that FINISH CENSUS leaves UNVERIFIED. -/
def State.unverifiedCount (s : State) : Nat := countOf (fun l => (s.lane l).state == .unverified) s.laneNums
/-- R171, R182: what FINISH CENSUS reads: the lanes, and for the bay sweep, the retry and the opening checks the vehicles
on the pad and at the gates, the stranded ones with the wash queues they stand in, the PARKED ones, and what each opening check
reads. -/
def State.finishReads (s : State) : List Nat :=
  partReads ++ stationSettings :: s.yardReads ++ s.waitingVehicles.flatMap s.vehicleReads ++
  s.yard.stranded.flatMap (fun v => s.vehicleReads v ++ s.washLineReads v) ++ s.pointNums.flatMap (fun p => s.openingReads p)
/-- R182: FINISH CENSUS, when it is taken. The mode changes first, and the records are checked before the lanes are judged, so
that an M5 found there takes the part on to SAFE (R174; log entry 31). -/
def State.finishCensus (s : State) : Reply × State :=
  let t := (s.setMode .running).reading State.finishReads
  let t1 := t.laneNums.foldl State.reconcileLane t
  let left := t1.unverifiedCount
  (done (be8 (t1.geo.numLanes - left) ++ be8 left), (t1.raise .censusReady).startRunning s)
/-- R182: FINISH CENSUS. -/
def serveFinishCensus (body : Bytes) : State → Reply × State :=
  sized 0 body (fun s =>
    if s.mode = .census ∧ s.clock.isSet = true then s.finishCensus else (refuse .wrongState, s))
/-- R183: ENTER CONFIGURE. -/
def serveEnterConfigure (body : Bytes) : State → Reply × State :=
  sized 0 body (fun s =>
    if s.mode = .census then (done [], s.enterCensusOr .configure) else (refuse .wrongState, s))
/-- R146, R171, R183: LEAVE CONFIGURE. Its check reads the geometry: an M5 found there leaves CONFIGURE for SAFE, and the check
then fails WRONG-STATE (log entry 31). -/
def serveLeaveConfigure (body : Bytes) : State → Reply × State :=
  sized 0 body (fun s =>
    if s.mode ≠ .configure then (refuse .wrongState, s)
    else
      let t := s.reading (fun _ => geometryReads)
      if t.mode ≠ .configure then (refuse .wrongState, t)
      else if t.geo.ok then (done [], t.rebuildNodes.enterCensusOr .census)
      else (refuse .conflict, t))
/-- R164, R167, R171: STOP YARD: X1 is reported, the records that the entry to SAFE reads are checked, SAFE is entered. -/
def serveStopYard (body : Bytes) : State → Reply × State :=
  sized 0 body (fun s =>
    let t := s.report .x1 0
    (done [], (if s.mode = .safe then t else t.reading State.safeReads).enterSafe))
/-- R158: RESTART: the reset follows the response. -/
def serveRestart (body : Bytes) : State → Reply × State :=
  sized 0 body (fun s => (done [], { s with link := { s.link with restarting := true } }))

/-! ### Identity and nodes (R148, R185) -/

/-- R185, R190: IDENTIFY. -/
def serveIdentify (body : Bytes) : State → Reply × State :=
  sized 0 body (fun s =>
    (done (be16 Config.identityCode.toNat ++ be8 Config.revision.toNat ++ be8 (modeCode s.mode) ++
      be8 (rateCode s.link.rate) ++ flag s.clock.isSet ++ flag s.store.valid), s))
/-- R148, R190: a node as read. -/
def nodeBytes (r : Nat × Node) : Bytes := be8 r.1 ++ be8 (livenessCode r.2.live) ++ flag r.2.heard ++ flag r.2.poll
/-- R148: READ NODES. -/
def serveReadNodes (body : Bytes) : State → Reply × State :=
  sized 0 body (fun s => (done (be8 s.bus.nodes.rows.length ++ s.bus.nodes.rows.flatMap nodeBytes), s))

/-! ### The commands -/

/-- READ CLOCK, 0x80 (R185). -/
def execReadClock (tag : Byte) (body : Bytes) (s : State) : Host.Outcome State Fault Refusal :=
  .next (s.goodFrame (serveReadClock body) 0x80#8 tag)
/-- SET CLOCK, 0x81 (R185). -/
def execSetClock (tag : Byte) (body : Bytes) (s : State) : Host.Outcome State Fault Refusal :=
  .next (s.goodFrame (serveSetClock body) 0x81#8 tag)
/-- READ SETTING, 0x82 (R186). -/
def execReadSetting (tag : Byte) (body : Bytes) (s : State) : Host.Outcome State Fault Refusal :=
  .next (s.goodFrame (serveReadSetting body) 0x82#8 tag)
/-- WRITE SETTING, 0x83 (R186). -/
def execWriteSetting (tag : Byte) (body : Bytes) (s : State) : Host.Outcome State Fault Refusal :=
  .next (s.goodFrame (serveWriteSetting body) 0x83#8 tag)
/-- STORE SETTINGS, 0x84 (R187). -/
def execStoreSettings (tag : Byte) (body : Bytes) (s : State) : Host.Outcome State Fault Refusal :=
  .next (s.goodFrame (serveStoreSettings body) 0x84#8 tag)
/-- READ NOTICES, 0x85 (R162). -/
def execReadNotices (tag : Byte) (body : Bytes) (s : State) : Host.Outcome State Fault Refusal :=
  .next (s.goodFrame (serveReadNotices body) 0x85#8 tag)
/-- CLEAR NOTICES, 0x86 (R162). -/
def execClearNotices (tag : Byte) (body : Bytes) (s : State) : Host.Outcome State Fault Refusal :=
  .next (s.goodFrame (serveClearNotices body) 0x86#8 tag)
/-- SET NOTICE ENABLES, 0x87 (R163). -/
def execSetNoticeEnables (tag : Byte) (body : Bytes) (s : State) : Host.Outcome State Fault Refusal :=
  .next (s.goodFrame (serveSetNoticeEnables body) 0x87#8 tag)
/-- READ FAULT, 0x88 (R168). -/
def execReadFault (tag : Byte) (body : Bytes) (s : State) : Host.Outcome State Fault Refusal :=
  .next (s.goodFrame (serveReadFault body) 0x88#8 tag)
/-- RELEASE FAULT, 0x89 (R168). -/
def execReleaseFault (tag : Byte) (body : Bytes) (s : State) : Host.Outcome State Fault Refusal :=
  .next (s.goodFrame (serveReleaseFault body) 0x89#8 tag)
/-- BEGIN CENSUS, 0x8A (R183). -/
def execBeginCensus (tag : Byte) (body : Bytes) (s : State) : Host.Outcome State Fault Refusal :=
  .next (s.goodFrame (serveBeginCensus body) 0x8A#8 tag)
/-- FINISH CENSUS, 0x8B (R182). -/
def execFinishCensus (tag : Byte) (body : Bytes) (s : State) : Host.Outcome State Fault Refusal :=
  .next (s.goodFrame (serveFinishCensus body) 0x8B#8 tag)
/-- ENTER CONFIGURE, 0x8C (R183). -/
def execEnterConfigure (tag : Byte) (body : Bytes) (s : State) : Host.Outcome State Fault Refusal :=
  .next (s.goodFrame (serveEnterConfigure body) 0x8C#8 tag)
/-- LEAVE CONFIGURE, 0x8D (R183). -/
def execLeaveConfigure (tag : Byte) (body : Bytes) (s : State) : Host.Outcome State Fault Refusal :=
  .next (s.goodFrame (serveLeaveConfigure body) 0x8D#8 tag)
/-- STOP YARD, 0x8E (R164, R167). -/
def execStopYard (tag : Byte) (body : Bytes) (s : State) : Host.Outcome State Fault Refusal :=
  .next (s.goodFrame (serveStopYard body) 0x8E#8 tag)
/-- RESTART, 0x8F (R158). -/
def execRestart (tag : Byte) (body : Bytes) (s : State) : Host.Outcome State Fault Refusal :=
  .next (s.goodFrame (serveRestart body) 0x8F#8 tag)
/-- IDENTIFY, 0x90 (R185). -/
def execIdentify (tag : Byte) (body : Bytes) (s : State) : Host.Outcome State Fault Refusal :=
  .next (s.goodFrame (serveIdentify body) 0x90#8 tag)
/-- READ NODES, 0x91 (R148). -/
def execReadNodes (tag : Byte) (body : Bytes) (s : State) : Host.Outcome State Fault Refusal :=
  .next (s.goodFrame (serveReadNodes body) 0x91#8 tag)

end Sys2Proof.Machine
end

