-- ==== Sys2Proof/Machine/LinkEvents.lean ====
section
/-! DEFINITION. The receiver, requests by code, the end of a response, and the resets (R151 to R158, R178, R188). -/

namespace Sys2Proof.Machine

/-! ### Requests by code (8.5, R157) -/

/-- 8.5: the fleet and yard requests. -/
def serveYardCode (code : Nat) : Option (Bytes → State → Reply × State) :=
  match code with
  | 0x01 => some serveEnrolVehicle | 0x02 => some serveAmendVehicle | 0x03 => some serveRetireVehicle
  | 0x04 => some serveReadVehicle | 0x05 => some serveHoldVehicle | 0x06 => some serveSetEnergy
  | 0x20 => some serveReadLane | 0x21 => some serveCloseLane | 0x22 => some serveOpenLane
  | 0x23 => some serveVerifyLane | 0x24 => some serveMoveVehicle | 0x25 => some servePlaceVehicle
  | 0x26 => some serveReadStation | 0x27 => some serveCloseStation | 0x28 => some serveOpenStation
  | _ => none
/-- 8.5: the energy and roster requests. -/
def serveRosterCode (code : Nat) : Option (Bytes → State → Reply × State) :=
  match code with
  | 0x40 => some serveSetBudget | 0x41 => some serveReadEnergy | 0x42 => some serveReadSession
  | 0x43 => some serveStopSession | 0x44 => some serveResumeSession
  | 0x60 => some serveAddSlot | 0x61 => some serveAmendSlot | 0x62 => some serveCancelSlot
  | 0x63 => some serveAssign | 0x64 => some serveUnassign | 0x65 => some serveReadSlot
  | 0x66 => some serveClearStaged | 0x67 => some serveMarkStaged | 0x68 => some serveCommitPlan
  | 0x69 => some serveCallNow | 0x6A => some serveListDue
  | _ => none
/-- 8.5: the part requests. -/
def servePartCode (code : Nat) : Option (Bytes → State → Reply × State) :=
  match code with
  | 0x80 => some serveReadClock | 0x81 => some serveSetClock | 0x82 => some serveReadSetting
  | 0x83 => some serveWriteSetting | 0x84 => some serveStoreSettings | 0x85 => some serveReadNotices
  | 0x86 => some serveClearNotices | 0x87 => some serveSetNoticeEnables | 0x88 => some serveReadFault
  | 0x89 => some serveReleaseFault | 0x8A => some serveBeginCensus | 0x8B => some serveFinishCensus
  | 0x8C => some serveEnterConfigure | 0x8D => some serveLeaveConfigure | 0x8E => some serveStopYard
  | 0x8F => some serveRestart | 0x90 => some serveIdentify | 0x91 => some serveReadNodes
  | _ => none
/-- R157: a request by its code; a code that is not assigned is answered UNKNOWN. -/
def serveByCode (code : Byte) (body : Bytes) (s : State) : Reply × State :=
  match serveYardCode code.toNat <|> serveRosterCode code.toNat <|> servePartCode code.toNat with
  | some serve => serve body s
  | none => (refuse .unknown, s)
/-- R154 to R157: a good frame with that code, tag and body completes. -/
def State.frameIn (s : State) (code tag : Byte) (body : Bytes) : State := s.goodFrame (serveByCode code body) code tag

/-! ### The receiver (R152, R153) -/

/-- R153: the receiver hunts again and the error is reported. -/
def State.dropFrame (s : State) (kind : Nat) : State :=
  State.discardFrame { s with link := { s.link with rx := .hunting } } kind
/-- R152: a complete frame of length `len`: its CRC is checked over the length byte to the last body byte; a good
frame is handed on with the receiver HUNTING. -/
def State.frameComplete (s : State) (len : Nat) (chars : Bytes) : State :=
  let covered := BitVec.ofNat 8 len :: chars.take len
  if chars.drop len = be16 (crc16 covered).toNat then
    match chars.take len with
    | code :: tag :: body => State.frameIn { s with link := { s.link with rx := .hunting } } code tag body
    | _ => s.dropFrame 4
  else s.dropFrame 4
/-- R152, R153, R188: a character arrives. -/
def State.receiveChar (s : State) (c : RxChar) : State :=
  if s.startup then s
  else
    match s.link.rx with
    | .hunting =>
      if c.good && c.value == 0xA5#8 then { s with link := { s.link with rx := .length } } else s
    | .length =>
      if !c.good then s.dropFrame 1
      else if 2 ≤ c.value.toNat ∧ c.value.toNat ≤ 76 then
        { s with link := { s.link with rx := .collecting c.value.toNat [] } }
      else s.dropFrame 3
    | .collecting len stored =>
      if !c.good then s.dropFrame 1
      else if stored.length + 1 = len + 2 then s.frameComplete len (c.value :: stored).reverse
      else { s with link := { s.link with rx := .collecting len (c.value :: stored) } }
/-- R153: no character arrives for more than 20 ms. -/
def State.frameGap (s : State) : State :=
  match s.link.rx with
  | .hunting => s
  | .length | .collecting _ _ => s.dropFrame 2

/-! ### The end of a response (R151, R155, R158) -/

/-- R151, R171: the link rate setting, read, comes into force, and the link goes on with `next`. -/
def State.linkNext (s : State) (next : LinkService) : State :=
  let t := s.reading (fun _ => [settingsRecord 0])
  { t with link := { t.link with rate := t.beh.linkRate, service := next } }
/-- R151, R155, R158: the last byte of a response leaves HTX; a BUSY answer that waits follows it. -/
def State.responseSent (s : State) : State :=
  match s.link.service with
  | .idle => s
  | .inService _ busy =>
    if s.link.restarting then s.resetAll false
    else
      s.linkNext (match busy with
        | some answer => LinkService.sendingBusy answer
        | none => .idle)
  | .sendingBusy _ => s.linkNext .idle

/-! ### The commands -/

/-- A good frame whose code the sender gives (R157). -/
def execUnknownRequest (code tag : Byte) (body : Bytes) (s : State) : Host.Outcome State Fault Refusal :=
  .next (s.frameIn code tag body)
/-- A good frame completes, whatever its code (R155). -/
def execBusyAnswer (code tag : Byte) (body : Bytes) (s : State) : Host.Outcome State Fault Refusal :=
  .next (s.frameIn code tag body)
/-- Characters arrive without a gap (R152, R153). -/
def execFrameDiscarded (chars : List RxChar) (s : State) : Host.Outcome State Fault Refusal :=
  .next (chars.foldl State.receiveChar s)
/-- A gap inside a frame (R153). -/
def execFrameGapTimeout (s : State) : Host.Outcome State Fault Refusal := .next s.frameGap
/-- The last byte of a response leaves HTX (R155). -/
def execResponseComplete (s : State) : Host.Outcome State Fault Refusal := .next s.responseSent
/-- A power-on reset (R178). -/
def execPowerOnReset (s : State) : Host.Outcome State Fault Refusal := .next (s.resetAll true)
/-- A reset by the reset line (R178). -/
def execLineReset (s : State) : Host.Outcome State Fault Refusal := .next (s.resetAll false)
/-- Start-up ends; the receiver hunts (R188). -/
def execStartupComplete (s : State) : Host.Outcome State Fault Refusal :=
  .next (if s.startup then { s with startup := false, link := { s.link with rx := .hunting } } else s)

end Sys2Proof.Machine
end

