-- ==== Sys2Proof/Machine/GateQueries.lean ====
section
/-! DEFINITION. Gate queries (R21, R22, R116 to R119, R140, R194). -/

namespace Sys2Proof.Machine

/-! ### GATE READ with direction IN (R21, R22) -/

/-- R22: an answer without a destination. -/
def plainAnswer (x : GateOutcome) (fleet : Nat) : Answer := { outcome := x, kind := .none, number := 0, fleet := fleet }
/-- R21: a gate at which arrivals are read. -/
def State.entersBy (s : State) (gate : Nat) : Bool :=
  (gate == 1 || gate == 2) && ((s.geo.gate gate).dir == .inward || (s.geo.gate gate).dir == .both)
/-- R21, R22, R37: a vehicle takes the lowest free pad spot, and a FREE bay at once where one serves it. -/
def State.toPad (s : State) (v p : Nat) : State :=
  let s1 := (s.setPad p (some { vehicle := v, arrival := s.now })).place v .onPad (.pad p)
  match s1.bayFor v with
  | some b => s1.sendToBay b v
  | none => s1
/-- R20, R22: a vehicle joins the tail of a gate queue. -/
def State.toGateQueue (s : State) (gate v : Nat) : State :=
  let q := s.gateQueue gate
  (s.setGateQueue gate (q ++ [{ vehicle := v, arrival := s.now }])).place v .atGate (.gateQueue gate (q.length + 1))
/-- R21: cases 5 to 7, in RUNNING. -/
def State.admitArrival (s : State) (gate v : Nat) : Answer × State :=
  let fleet := s.fleetOf v
  let n := (s.gateQueue gate).length
  let room := if s.service.gate1.isEmpty && s.service.gate2.isEmpty then s.freePad? else none
  match room with
  | some p => ({ outcome := .pad, kind := .pad, number := p, fleet := fleet }, s.toPad v p)
  | none =>
    if n < Config.gateQueueMax then
      ({ outcome := .queue, kind := .gateQueue, number := n + 1, fleet := fleet }, s.toGateQueue gate v)
    else (plainAnswer .holdOutside fleet, s.raise .arrivalHeld)
/-- R21: the answer to a GATE READ with direction IN, and its effect. -/
def State.gateIn (s : State) (gate tag : Nat) : Answer × State :=
  match s.byTag tag with
  | none =>
    if s.entersBy gate then (plainAnswer .inspect 0, (s.report .g1 gate).raise .unknownTag)
    else (plainAnswer .holdOutside 0, s)
  | some v =>
    if !s.entersBy gate then (plainAnswer .holdOutside (s.fleetOf v), s)
    else if (s.vehicle v).state ≠ .out then (plainAnswer .duplicate (s.fleetOf v), s.report .g2 v)
    else if s.mode ≠ .running then (plainAnswer .holdOutside (s.fleetOf v), s)
    else s.admitArrival gate v

/-! ### GATE READ with direction OUT (R116 to R119) -/

/-- R60: an entry has left some lane's list, or a spot has become free, since `before`. -/
def State.freedSince (before s : State) : Bool :=
  decide (s.yard.spots.rows.length < before.yard.spots.rows.length) ||
  before.laneNums.any (fun l => decide ((s.lane l).entries.length < (before.lane l).entries.length))
/-- R117: the called exit. -/
def State.calledExit (s : State) (v : Nat) : State :=
  let s1 := match (s.vehicle v).assignment with
    | some n => s.updSlot n (fun x => x.finish .gone)
    | none => s
  let s2 := (((s1.place v .out .absent).setAssignment v none).freeSpotsOf v).passOn [v]
  s2.retryIf (State.freedSince s s2)
/-- R116, case 4: an active slot that is GONE and unconfirmed, with the vehicle as its last; of several, a case R116 leaves
open, the first in plan order (log entry 68). -/
def State.unconfirmedSlot (s : State) (v : Nat) : Option Nat :=
  (s.roster.active.find? (fun x => x.state == .gone && x.unconfirmed && x.last == some (v, s.fleetOf v))).map (·.num)
/-- R119: the slot of a vehicle that has left uncalled. -/
def State.goneUncalled (s : State) (v : Nat) : State :=
  match (s.vehicle v).assignment with
  | some n => (s.updSlot n (fun x => { x.finish .gone with uncalled := true })).setAssignment v none
  | none => s
/-- R25, R48, R60, R70, R119: the uncalled exit. -/
def State.uncalledExit (s : State) (v : Nat) : State :=
  let r := s.vehicle v
  let s1 := ((s.report .l3 v).raise .uncalledExit).place v .out .absent
  let s2 := (((s1.goneUncalled v).leaveLine v r).releaseYard v r).passOn [v]
  s2.retryIf (State.freedSince s s2)
/-- R116: the answer to a GATE READ with direction OUT, and its effect. -/
def State.gateOut (s : State) (gate tag : Nat) : Answer × State :=
  if gate < 1 ∨ 4 < gate then (plainAnswer .inspect 0, s)
  else
    match s.byTag tag with
    | none => (plainAnswer .inspect 0, (s.report .g1 gate).raise .unknownTag)
    | some v =>
      let fleet := s.fleetOf v
      match (s.vehicle v).state with
      | .departing =>
        ({ outcome := .released, kind := .slot, number := ((s.vehicle v).assignment).getD 0, fleet := fleet }, s.calledExit v)
      | .out =>
        match s.unconfirmedSlot v with
        | some n =>
          ({ outcome := .released, kind := .slot, number := n, fleet := fleet },
            s.updSlot n (fun x => { x with unconfirmed := false }))
        | none => (plainAnswer .duplicate fleet, s)
      | _ => (plainAnswer .uncalled fleet, s.uncalledExit v)

/-! ### What a gate query reads (R171) -/

/-- R21: what the answer to a GATE READ with direction IN reads of a vehicle. -/
def State.gateInReads (s : State) (gate v : Nat) : List Nat :=
  v :: (if s.entersBy gate && (s.vehicle v).state == .out && s.mode == .running then
    [settingsRecord 0, stationSettings] else [])
/-- R116 to R119: what the answer to a GATE READ with direction OUT reads of a vehicle. -/
def State.gateOutReads (s : State) (v : Nat) : List Nat :=
  s.vehicleReads v ++
  (match (s.vehicle v).state with
    | .departing => s.keyReads v ++ s.retryReads
    | .out => s.roster.active.map (·.record)
    | _ => s.lineReads v ++ s.keyReads v ++ s.retryReads)
/-- R21, R116: what a gate query reads beside the gates' settings. -/
def State.gateReads (gate dir tag : Nat) (s : State) : List Nat :=
  match s.byTag tag with
  | none => []
  | some v =>
    if dir = 1 then s.gateInReads gate v
    else if dir = 2 ∧ 1 ≤ gate ∧ gate ≤ 4 then s.gateOutReads v
    else []

/-! ### The query (R136, R140, R146, R194) -/

/-- R146: a node is heard. -/
def State.markHeard (s : State) (node : Nat) : State :=
  match s.bus.nodes.get? node with
  | some r => { s with bus := { s.bus with nodes := s.bus.nodes.set node { r with live := .live, heard := true } } }
  | none => s
/-- R194: the decision on a GATE READ by its direction code. -/
def State.decideGate (s : State) (gate dir tag : Nat) : Answer × State :=
  if dir = 1 then s.gateIn gate tag
  else if dir = 2 then s.gateOut gate tag
  else (plainAnswer .inspect 0, s)
/-- R140, R171: a GATE READ whose check byte has been acknowledged is answered from the records, checked as they are
read. -/
def State.answerGate (s : State) (source : Byte) (gate dir tag : Nat) : State :=
  let r := ((s.markHeard source.toNat).reading (State.gateReads gate dir tag)).decideGate gate dir tag
  { r.2 with bus := { r.2.bus with iface := .answering, answer := some (source, r.1) } }
/-- R136, R145, R188: another party's transaction can begin: not in start-up, not while the part sends. -/
def State.canHear (s : State) : Bool := !s.startup && s.bus.iface != .sending
/-- R136: another party's transaction has begun: the one before has ended, and the lines have been high. -/
def State.newTransaction (s : State) : State :=
  { s with bus := { s.bus with iface := .watching, freeSeen := true, receiving := none, answer := none } }
/-- R150, R171: a transaction of another party is heard: its destination is held against the addresses the part reads. -/
def State.hearBus (s : State) : State := s.newTransaction.reading (fun _ => [settingsRecord 1])
/-- R134: a source address that is acknowledged. -/
def sourceOk (source : Byte) : Bool := decide (1 ≤ source.toNat ∧ source.toNat ≤ 62)
/-- R134, R140: a GATE READ that arrives well formed from a source. -/
def State.gateRead (s : State) (source : Byte) (gate dir tag : Nat) : State :=
  if s.canHear then
    if sourceOk source then s.hearBus.answerGate source gate dir tag else s.hearBus
  else s
/-- R140: the answer is lost. -/
def State.loseAnswer (s : State) : State :=
  match s.bus.answer with
  | some (node, _) => State.report { s with bus := { s.bus with answer := none } } .q2 node.toNat
  | none => s

/-! ### The commands -/

/-- A GATE READ with direction IN (R21). -/
def execGateReadIn (source gate : Byte) (vtag : BitVec 32) (s : State) : Host.Outcome State Fault Refusal :=
  .next (s.gateRead source gate.toNat 1 vtag.toNat)
/-- A GATE READ with direction OUT (R116). -/
def execGateReadOut (source gate : Byte) (vtag : BitVec 32) (s : State) : Host.Outcome State Fault Refusal :=
  .next (s.gateRead source gate.toNat 2 vtag.toNat)
/-- The gate node does not acknowledge an answer byte (R140). -/
def execGateAnswerLost (s : State) : Host.Outcome State Fault Refusal :=
  .next (if s.bus.iface = .answering then
    State.loseAnswer { s with bus := { s.bus with iface := .watching } } else s)

end Sys2Proof.Machine
end

