-- ==== Sys2Proof/Machine/BusEvents.lean ====
section
/-! DEFINITION. The yard bus: messages received and refused, sending, the stuck bus (R133 to R147). -/

namespace Sys2Proof.Machine

/-! ### Reception (R133, R134, R138) -/

/-- R193: an inbound kind's payload length. -/
def inboundLength (kind : Nat) : Option Nat :=
  if kind = 0x11 ∨ kind = 0x12 ∨ kind = 0x15 then some 6
  else if kind = 0x13 ∨ kind = 0x14 ∨ kind = 0x16 then some 2
  else none
/-- R133: the kinds taken at an address by what it is to the part. -/
def Role.takes (r : Role) (kind : Nat) : Bool :=
  match r with
  | .gate => kind == 0x11
  | .service => kind == 0x12 || kind == 0x13 || kind == 0x14
  | .energy => kind == 0x15 || kind == 0x16
  | .broadcast => kind == 0x16
/-- R133: whether an address is that to the part now. -/
def State.isRole (s : State) (dest : Nat) (r : Role) : Bool :=
  match r with
  | .gate => dest == s.geo.gateAddr
  | .service => dest == s.geo.serviceAddr
  | .energy => dest == s.geo.energyAddr
  | .broadcast => dest == 0
/-- R133: what an address is to the part now. -/
def State.rolesOf (s : State) (dest : Nat) : List Role :=
  [Role.gate, .service, .energy, .broadcast].filter (s.isRole dest)
/-- R134, R138: a destination byte is acknowledged. -/
def State.destTaken (s : State) (roles : List Role) : Bool :=
  roles.contains .gate || (!roles.isEmpty && decide (s.bus.inbound.length < Config.inboundMax))
/-- R150: what the destination of a message is to the part: what it was when the part acknowledged it, where the part is
receiving that message; else what it is now. -/
def State.messageRoles (s : State) (receiving : Option (Byte × List Role)) (dest : Byte) : List Role :=
  match receiving with
  | some (d, roles) => if d = dest then roles else s.rolesOf dest.toNat
  | none => s.rolesOf dest.toNat
/-- R134: the message of those bytes, when every byte of it is acknowledged; `roles` says what its destination is. -/
def State.accept (s : State) (roles : Byte → List Role) (msg : Bytes) : Option InMsg :=
  match msg with
  | dest :: source :: kind :: len :: rest =>
    if s.destTaken (roles dest) && sourceOk source && (roles dest).any (fun r => r.takes kind.toNat) &&
        (kind == 0x11#8 || decide (s.bus.inbound.length < Config.inboundMax)) &&
        inboundLength kind.toNat == some len.toNat && rest.length == len.toNat + 1 && msg.foldl (· + ·) 0#8 == 0#8 then
      some { dest := dest, source := source, kind := kind, payload := rest.dropLast }
    else none
  | _ => none
/-- R194: a bay or wash report whose event code names no event. -/
def InMsg.undefinedEvent (m : InMsg) : Bool :=
  (m.kind == 0x12#8 || m.kind == 0x13#8) && !decide (1 ≤ at8 m.payload 1 ∧ at8 m.payload 1 ≤ 5)
/-- R27, R44, R139, R194: a report at the head of the queue whose event is not defined is taken and discarded, with no
row of its own for it (log entry 60). -/
def inboundHead (q : List InMsg) : List InMsg := q.dropWhile InMsg.undefinedEvent
/-- The inbound queue becomes `q`, but for undefined reports at its head. -/
def State.setInbound (s : State) (q : List InMsg) : State := { s with bus := { s.bus with inbound := inboundHead q } }
/-- R138, R146: a report joins the tail of the inbound queue, and its sender is heard. -/
def State.queueReport (s : State) (m : InMsg) : State :=
  let s' := s.markHeard m.source.toNat
  State.setInbound { s' with bus := { s'.bus with iface := .idle } } (s'.bus.inbound ++ [m])
/-- R133, R134, R136, R138, R140: another party sends those bytes. -/
def State.busMessage (s : State) (msg : Bytes) : State :=
  if s.canHear then
    let t := s.hearBus
    match t.accept (t.messageRoles s.bus.receiving) msg with
    | none => t
    | some m =>
      if m.kind = 0x11#8 then t.answerGate m.source (at8 m.payload 0) (at8 m.payload 1) (at32 m.payload 2)
      else t.queueReport m
  else s

/-! ### Sending (R95, R137, R144, R147) -/

/-- R141: the head of the queue, and the queue without it. -/
def Bus.takeHead (b : Bus) : Option (OutMsg × Bus) :=
  match b.urgent, b.normal with
  | m :: ms, _ => some (m, { b with urgent := ms })
  | [], m :: ms => some (m, { b with normal := ms })
  | [], [] => none
/-- R95: a SETPOINT begins to be sent. -/
def State.setpointBegun (s : State) (m : OutMsg) : State :=
  match m.setpoint? with
  | some (p, kw) => s.updPoint p (fun r => { r with held := r.held.map (max kw) })
  | none => s
/-- R144: the part begins sending the head. -/
def State.sendStart (s : State) : State :=
  if s.canHear && s.bus.freeSeen then
    match s.bus.takeHead with
    | none => s
    | some (m, b) =>
      State.setpointBegun { s with bus := { b with
        iface := .sending, inFlight := some m, receiving := none, answer := none } } m
  else s
/-- R137, R145: the message in flight is unsent again, at the head of its class. One that a message queued meanwhile would have
replaced (R142) comes back all the same, and both are sent (log entry 70). -/
def Bus.unsend (b : Bus) : Bus :=
  match b.inFlight with
  | none => b
  | some m =>
    if m.urgent then { b with urgent := m :: b.urgent, inFlight := none }
    else { b with normal := m :: b.normal, inFlight := none }
/-- R137, R150: arbitration is lost to a message with that destination, which the part receives where it acknowledges
it. -/
def State.loseTo (s : State) (dest : Byte) : State :=
  let b := s.bus.unsend
  let roles := s.rolesOf dest.toNat
  if s.destTaken roles then { s with bus := { b with iface := .receiving, receiving := some (dest, roles) } }
  else { s with bus := { b with iface := .watching } }
/-- R137: arbitration is lost; a destination above the part's own does not win it. -/
def State.arbitrationLost (s : State) (dest : Byte) : State :=
  match s.bus.iface, s.bus.inFlight with
  | .sending, some m =>
    if dest.toNat ≤ m.dest then (s.reading (fun _ => [settingsRecord 1])).loseTo dest else s
  | _, _ => s
/-- R95: a SETPOINT has been acknowledged. -/
def State.setpointTaken (s : State) (m : OutMsg) : State :=
  match m.setpoint? with
  | some (p, kw) => s.updPoint p (fun r => { r with held := some kw })
  | none => s
/-- R95: a SETPOINT has not been acknowledged. -/
def State.setpointRefused (s : State) (m : OutMsg) : State :=
  match m.setpoint? with
  | some (p, _) => s.updPoint p (fun r => { r with held := none, issued := none })
  | none => s
/-- R147: a node's poll-pending mark clears. -/
def State.clearPoll (s : State) (node : Nat) : State :=
  match s.bus.nodes.get? node with
  | some r => { s with bus := { s.bus with nodes := s.bus.nodes.set node { r with poll := false } } }
  | none => s
/-- R144: the message in flight leaves the queue. -/
def State.leaveQueue (s : State) : State := { s with bus := { s.bus with iface := .idle, inFlight := none } }
/-- R144: every byte has been acknowledged, or a broadcast has been sent. -/
def State.sent (s : State) (m : OutMsg) : State :=
  let s1 := (s.leaveQueue.setpointTaken m).markHeard m.dest
  (if m.isPoll then s1.clearPoll m.dest else s1).placeFreed
/-- R80, R93, R171: a node that goes silent is held against the cabinets; where it is one, every point's settings say which
points are its own, and each of those has its waiting grade formed (the lane, the vehicle PARKED there, its slot); the sessions
where one of them has one. -/
def State.cabinetReads (node : Nat) (s : State) : List Nat :=
  let ps := s.pointNums.filter (fun p => s.geo.cabinetNode (s.geo.point p).cabinet == node)
  settingsRecord 1 :: cabinetSettings :: (if s.isCabinet node then
    settingsRecord 0 :: s.pointNums.map pointSettings ++
    ps.flatMap (fun p => s.boundReads p ++ (s.parkedAt p).toList.flatMap s.slotReads) ++
    (if ps.any (fun p => (s.session p).isSome) then s.energyReads else [])
  else [])
/-- R147: a node fails its POLL. An address that the node table has lost meanwhile has no liveness to judge: the POLL is gone
without Q3 and without Q2 (log entry 73). -/
def State.failPoll (s : State) (node : Nat) : State :=
  match s.bus.nodes.get? node with
  | none => s.leaveQueue.placeFreed
  | some r =>
    let s1 : State := { s with bus := { s.bus with nodes := s.bus.nodes.set node { r with live := .silent, poll := false } } }
    let s2 := s1.leaveQueue.placeFreed
    if r.live = .silent then s2
    else ((s2.report .q3 node).reading (State.cabinetReads node)).cabinetOffline node
/-- R146: a node that acknowledged its destination byte is marked heard; the liveness of a POLL's node is judged
by R147. -/
def State.hearFailed (s : State) (m : OutMsg) (destAcked : Bool) : State :=
  if !destAcked then s
  else if m.isPoll then
    match s.bus.nodes.get? m.dest with
    | some r => { s with bus := { s.bus with nodes := s.bus.nodes.set m.dest { r with heard := true } } }
    | none => s
  else s.markHeard m.dest
/-- R144, R147: a not-acknowledge; a broadcast asks for none and is sent all the same. -/
def State.notAcknowledged (s : State) (m : OutMsg) (destAcked : Bool) : State :=
  if m.isYardState then s.sent m
  else
    let s1 := s.hearFailed m destAcked
    if m.isPoll then s1.failPoll m.dest
    else ((s1.leaveQueue.setpointRefused m).placeFreed).report .q2 m.dest
/-- R147, R171: the place that a message leaves may go to a POLL, which carries the SERVICE address. -/
def State.freedReads (m : OutMsg) (s : State) : List Nat :=
  if s.bus.nodes.rows.any (fun r => r.2.poll && !(m.isPoll && r.1 == m.dest)) then [settingsRecord 1] else []
/-- R144, R171: the message in flight ends. -/
def State.endSending (s : State) (f : OutMsg → State → State) : State :=
  match s.bus.iface, s.bus.inFlight with
  | .sending, some m => f m (s.reading (State.freedReads m))
  | _, _ => s

/-! ### The stuck bus (R145) -/

/-- R145: the timeout passes without a clock edge. -/
def State.stuckBus (s : State) : State :=
  if s.startup || s.bus.iface == .idle then s
  else
    let s1 := s.report .q1 0
    State.loseAnswer { s1 with bus := { s1.bus.unsend with iface := .idle, freeSeen := false, receiving := none } }

/-! ### The commands -/

/-- A report is received (R134, R138). -/
def execReportReceived (msg : Bytes) (s : State) : Host.Outcome State Fault Refusal := .next (s.busMessage msg)
/-- A message is refused (R134). -/
def execMessageRefused (msg : Bytes) (s : State) : Host.Outcome State Fault Refusal := .next (s.busMessage msg)
/-- The part begins sending (R144). -/
def execSendStart (s : State) : Host.Outcome State Fault Refusal := .next s.sendStart
/-- The part loses arbitration (R137). -/
def execArbitrationLost (dest : Byte) (s : State) : Host.Outcome State Fault Refusal :=
  .next (s.arbitrationLost dest)
/-- Every byte is acknowledged (R144). -/
def execSendAcknowledged (s : State) : Host.Outcome State Fault Refusal := .next (s.endSending (fun m t => t.sent m))
/-- A byte is not acknowledged (R144, R147). -/
def execSendNotAcknowledged (destAcked : Bool) (s : State) : Host.Outcome State Fault Refusal :=
  .next (s.endSending (fun m t => t.notAcknowledged m destAcked))
/-- The stuck-bus timeout passes (R145). -/
def execStuckBusTimeout (s : State) : Host.Outcome State Fault Refusal := .next s.stuckBus
/-- Another party's transaction begins (R136). -/
def execOtherPartyTraffic (s : State) : Host.Outcome State Fault Refusal :=
  .next (if s.canHear then s.hearBus else s)
/-- Both lines are seen high (R145). -/
def execBusSeenFree (s : State) : Host.Outcome State Fault Refusal :=
  .next (if s.startup then s else { s with bus := { s.bus with freeSeen := true } })

end Sys2Proof.Machine
end

