-- ==== Sys2Proof/Machine/BayReports.lean ====
section
/-! DEFINITION. Bay reports taken from the inbound queue (R27 to R31, R139, R194). -/

namespace Sys2Proof.Machine

/-! ### Taking a report (R139, R194) -/

/-- R139: the report at the head of the inbound queue, where `p` holds of it, is taken. -/
def State.takeReport (s : State) (p : InMsg → Bool) (act : InMsg → State → State) : State :=
  match inboundHead s.bus.inbound with
  | m :: ms => if p m then act m (s.setInbound ms) else s.setInbound (m :: ms)
  | [] => s.setInbound []
/-- R27, R44: the report at the head names that kind and event. -/
def isEvent (kind : Byte) (event : Nat) (m : InMsg) : Bool := m.kind == kind && at8 m.payload 1 == event
/-- R28 to R31, R171: what a bay report reads: the bays' settings, the occupant, and where the event brings one, placement,
the wash queue that a vehicle joins, or a turn. -/
def State.bayReads (event b : Nat) (s : State) : List Nat :=
  let r := s.bay b
  let held := r.occupant.toList
  stationSettings :: held ++
  (if (event = 1 ∧ r.state = .faulted) ∨ ((event = 2 ∨ event = 4) ∧ r.state = .serving) then held.flatMap s.placementReads
    else []) ++
  (if event = 2 ∧ r.state = .serving then s.washQueued else []) ++ (if event = 3 ∨ event = 5 then s.padReads else [])
/-- R27, R171: a bay report with that event, at a configured bay, the records checked as they are read, the number of bays
first. -/
def State.bayReport (s : State) (event : Nat) (act : Nat → Nat → State → State) : State :=
  s.takeReport (isEvent 0x12#8 event) (fun m u =>
    let b := at8 m.payload 0
    let t := u.reading (fun _ => [settingsRecord 1])
    if 1 ≤ b ∧ b ≤ t.geo.numBays then act b (at32 m.payload 2) (t.reading (State.bayReads event b)) else t)

/-! ### The events (R28 to R31) -/

/-- R28: the expected vehicle has drawn in. -/
def State.drawnIn (s : State) (b v : Nat) : State :=
  let r := s.bay b
  match r.state with
  | .awaiting => (s.place v .inBay (.bay b)).setBay b { r with state := .serving, deadline := none }
  | .faulted =>
    if !r.onward && (s.vehicle v).state == .toBay then
      ((s.place v .inBay (.bay b)).setBay b { r with deadline := none }).placeFromBay b v
    else s.report .s2 b
  | .serving | .finished => s
  | .free | .closed => s.report .s2 b
/-- R28: ARRIVED. -/
def bayArrived (b tag : Nat) (s : State) : State :=
  match s.byTag tag with
  | some v => if (s.bay b).occupant = some v then s.drawnIn b v else s.report .s2 b
  | none => s.report .s2 b
/-- R29: DONE. -/
def bayDone (b _tag : Nat) (s : State) : State :=
  match (s.bay b).state, (s.bay b).occupant with
  | .serving, some v => (s.updBay b (fun r => { r with state := .finished })).washDecision b v
  | _, _ => s
/-- R30, R47, R60: a STRANDED vehicle is no longer where its station held it. -/
def State.loseStranded (s : State) (v : Nat) : State := ((s.place v .unknown .absent).unstrand v).report .l4 v
/-- R26, R30: the occupant and the mark are cleared. -/
def State.emptyBay (s : State) (b : Nat) : State := s.updBay b Bay.emptied
/-- R30: CLEAR in FINISHED. -/
def State.clearFinished (s : State) (b : Nat) : State :=
  match (s.bay b).occupant with
  | none => (s.emptyBay b).freeBay b
  | some v =>
    if (s.bay b).onward then (s.emptyBay b).freeBay b
    else if (s.vehicle v).state = .stranded then ((s.loseStranded v).emptyBay b).freeBay b
    else s
/-- R30: CLEAR in SERVING. -/
def State.clearServing (s : State) (b : Nat) : State :=
  match (s.bay b).occupant with
  | none => s
  | some v => ((s.place v .unknown .absent).emptyBay b).freeBay b
/-- R30: CLEAR in FAULTED. -/
def State.clearFaulted (s : State) (b : Nat) : State :=
  match (s.bay b).occupant with
  | none => s
  | some v =>
    if (s.bay b).onward then s.emptyBay b
    else if (s.vehicle v).state = .stranded then (s.loseStranded v).emptyBay b
    else s
/-- R30: CLEAR. -/
def bayClear (b _tag : Nat) (s : State) : State :=
  match (s.bay b).state with
  | .finished => s.clearFinished b
  | .serving => s.clearServing b
  | .faulted => s.clearFaulted b
  | .free | .awaiting | .closed => s
/-- R31: FAULT. -/
def bayFault (b _tag : Nat) (s : State) : State :=
  let r := s.bay b
  let s' := (s.setBay b { r with state := .faulted }).report .s1 b
  match r.state, r.occupant with
  | .faulted, _ => s
  | .closed, _ => s.setBay b { r with state := .faulted, closing := true }
  | .serving, some v => s'.placeFromBay b v
  | _, _ => s'
/-- R31: RESTORED. -/
def bayRestored (b _tag : Nat) (s : State) : State :=
  let r := s.bay b
  match r.state, r.occupant with
  | .faulted, none => s.freeBay b
  | .faulted, some v =>
    if !r.onward && (s.vehicle v).state == .toBay then s.setBay b { r with state := .awaiting }
    else s.setBay b { r with state := .finished }
  | _, _ => s

/-! ### The commands -/

/-- BAY REPORT, ARRIVED (R28). -/
def execBayArrived (s : State) : Host.Outcome State Fault Refusal := .next (s.bayReport 1 bayArrived)
/-- BAY REPORT, DONE (R29). -/
def execBayDone (s : State) : Host.Outcome State Fault Refusal := .next (s.bayReport 2 bayDone)
/-- BAY REPORT, CLEAR (R30). -/
def execBayClear (s : State) : Host.Outcome State Fault Refusal := .next (s.bayReport 3 bayClear)
/-- BAY REPORT, FAULT (R31). -/
def execBayFault (s : State) : Host.Outcome State Fault Refusal := .next (s.bayReport 4 bayFault)
/-- BAY REPORT, RESTORED (R31). -/
def execBayRestored (s : State) : Host.Outcome State Fault Refusal := .next (s.bayReport 5 bayRestored)

end Sys2Proof.Machine
end

