-- ==== Sys2Proof/Machine/WashReports.lean ====
section
/-! DEFINITION. Wash reports taken from the inbound queue (R44 to R47). -/

namespace Sys2Proof.Machine

/-- R44 to R47, R171: what a wash report reads: the wash lanes' settings, the occupant and the queue; where the event directs
one on, the movement timeout and the SERVICE address; where it may bring one, their placement; at a FAULT the other lane's queue,
which takes them. -/
def State.washReads (event l : Nat) (s : State) : List Nat :=
  let held := (s.wash l).occupant.toList ++ (s.wash l).queue.map (·.vehicle)
  stationSettings :: held ++ (if event = 1 then [] else partReads) ++
  (if event = 2 ∨ event = 3 ∨ event = 4 then held.flatMap s.placementReads else []) ++
  (if event = 4 then (s.wash (otherWash l)).queue.map (·.vehicle) else [])
/-- R44, R171: a wash report with that event, at a configured lane, the records checked as they are read, the number of wash
lanes first. -/
def State.washReport (s : State) (event : Nat) (act : Nat → State → State) : State :=
  s.takeReport (isEvent 0x13#8 event) (fun m u =>
    let l := at8 m.payload 0
    let t := u.reading (fun _ => [settingsRecord 1])
    if 1 ≤ l ∧ l ≤ t.geo.numWashes then act l (t.reading (State.washReads event l)) else t)

/-- R44: ENTERED. -/
def washEntered (l : Nat) (s : State) : State :=
  let r := s.wash l
  match r.state, r.queue with
  | .idle, e :: q =>
    if e.directed.isSome then
      ((s.setWash l { r with state := .washing, occupant := some e.vehicle }).place e.vehicle .washing
        (.wash l)).putWashQueue l q
    else s
  | _, _ => s
/-- R45: DONE. -/
def washDone (l : Nat) (s : State) : State :=
  match (s.wash l).state, (s.wash l).occupant with
  | .washing, some v =>
    if (s.vehicle v).state = .washing then
      (s.updVehicle v (fun r => { r with lastWash := some s.clock.day })).placeFromWash l v
    else s
  | _, _ => s
/-- R46: FAULT. -/
def washFault (l : Nat) (s : State) : State :=
  let r := s.wash l
  match r.state with
  | .idle | .washing => ((s.setWash l { r with state := .faulted }).report .w1 l).emptyWash l
  | .closed => s.setWash l { r with state := .faulted, closing := true }
  | .faulted => s
/-- R47: CLEAR. -/
def washClear (l : Nat) (s : State) : State :=
  match (s.wash l).state, (s.wash l).occupant with
  | .washing, some v =>
    if (s.vehicle v).state = .stranded then (s.loseStranded v).freeWash l
    else (s.place v .unknown .absent).freeWash l
  | .faulted, some v =>
    if (s.vehicle v).state = .stranded then (s.loseStranded v).freeWash l else s.placeFromWash l v
  | _, _ => s
/-- R47: RESTORED. -/
def washRestored (l : Nat) (s : State) : State :=
  let r := s.wash l
  match r.state, r.occupant with
  | .faulted, some _ => s.setWash l { r with state := .washing }
  | .faulted, none => (s.setWash l { r with state := .idle }).settleWash l
  | _, _ => s

/-! ### The commands -/

/-- WASH REPORT, ENTERED (R44). -/
def execWashEntered (s : State) : Host.Outcome State Fault Refusal := .next (s.washReport 1 washEntered)
/-- WASH REPORT, DONE (R45). -/
def execWashDone (s : State) : Host.Outcome State Fault Refusal := .next (s.washReport 2 washDone)
/-- WASH REPORT, CLEAR (R47). -/
def execWashClear (s : State) : Host.Outcome State Fault Refusal := .next (s.washReport 3 washClear)
/-- WASH REPORT, FAULT (R46). -/
def execWashFault (s : State) : Host.Outcome State Fault Refusal := .next (s.washReport 4 washFault)
/-- WASH REPORT, RESTORED (R47). -/
def execWashRestored (s : State) : Host.Outcome State Fault Refusal := .next (s.washReport 5 washRestored)

end Sys2Proof.Machine
end

