-- ==== Sys2Proof/Machine/YardReports.lean ====
section
/-! DEFINITION. Lane reports, point reports and site limits taken from the inbound queue (R61, R79, R82, R96). -/

namespace Sys2Proof.Machine

/-! ### LANE REPORT (R60 to R63, R106) -/

/-- R61: the lane a node address and an index name: of several the lowest, a case the spec leaves open (log entry 59). -/
def State.laneOf (s : State) (node index : Nat) : Option Nat :=
  s.laneNums.find? (fun l => (s.geo.lane l).node == node && (s.geo.lane l).index == index)
/-- R171: what a retry and an attempt pass read, where they are triggered. -/
def State.followReads (retry pass : Bool) (s : State) : List Nat :=
  (if retry then s.retryReads else []) ++ (if pass then s.passReads else [])
/-- R60, R106: the retry and the attempt pass that a report triggers, in one order or the other. -/
def State.followUp (s : State) (passFirst retry pass : Bool) : State :=
  let t := s.reading (State.followReads retry pass)
  if passFirst then (t.attemptIf pass).retryIf retry else (t.retryIf retry).attemptIf pass
/-- R61 to R63, R171: what a lane report reads beside the lane's record, which named the lane: unless it is UNVERIFIED, what the
arrival of an ARRIVING vehicle reads at a position that has become occupied; where one with a LEAVING entry has become empty, the
vehicles of the list, whose keys are counted again, and the slot of a called one. -/
def State.laneReportReads (l : Nat) (set : BitVec 8) (s : State) : List Nat :=
  let r := s.lane l
  let depth := (s.geo.lane l).depth
  let came := ((positionsIn depth (set &&& ~~~r.image)).filterMap r.at?).filter (fun e => e.mark.isArriving)
  let gone := ((positionsIn depth (r.image &&& ~~~set)).filterMap r.at?).filter (fun e => e.mark.isLeaving)
  laneRecord l :: (if r.state = .unverified then []
    else came.flatMap (fun e => s.arrivalReads e.vehicle l e.pos) ++
      (if gone.isEmpty then [] else r.entries.map (·.vehicle)) ++
      (gone.filter (fun e => e.mark == .leavingCall)).flatMap (fun e => s.slotReads e.vehicle))
/-- R60, R61, R106, R171: a lane report at its lane. -/
def State.laneReport (s : State) (passFirst : Bool) (l : Nat) (set : BitVec 8) : State :=
  let s0 := s.reading (State.laneReportReads l (depthMask (s.geo.lane l).depth set))
  let s1 := s0.takeLaneReport l (depthMask (s0.geo.lane l).depth set)
  s1.followUp passFirst (State.freedSince s0 s1)
    (decide ((s1.lane l).entries.length < (s0.lane l).entries.length))
/-- R61, R171: the lanes are read one after the other for their node and index, up to the one that the report names; all of
them where none is named. The number of lanes has been read before. -/
def State.laneScan (node index : Nat) (s : State) : List Nat :=
  (upTo 1 ((s.laneOf node index).getD s.geo.numLanes)).map laneRecord
/-- R61: a lane report. -/
def takeLane (passFirst : Bool) (m : InMsg) (s : State) : State :=
  let node := m.source.toNat
  let index := at8 m.payload 0
  let t := (s.reading (fun _ => [settingsRecord 1])).reading (State.laneScan node index)
  match t.laneOf node index with
  | some l => t.laneReport passFirst l (BitVec.ofNat 8 (at8 m.payload 1))
  | none => t

/-! ### POINT REPORT (R79, R82) -/

/-- R79, R85: the counter. -/
def State.takeCounter (s : State) (p count : Nat) : State :=
  (s.updPoint p (fun r => { r with counter := max r.counter count })).account p
/-- R79, R87: the acceptance. -/
def State.takeAcceptance (s : State) (p kw : Nat) : State :=
  if kw = 0 ∨ (s.point p).accept = some kw then s
  else
    let s' := s.updPoint p (fun r => { r with accept := some kw })
    if (s'.session p).isSome then s'.recompute else s'
/-- R82: a plug at a berth the records hold empty, in an OPEN or CLOSED lane. -/
def State.plugCheck (s : State) (p : Nat) : State :=
  let l := (s.geo.point p).lane
  if (s.boundEntry p).isNone && (s.lane l).state != .unverified then s.mismatch l else s
/-- R79: the condition has become `c`. -/
def State.changeCond (s : State) (p count : Nat) (c : Cond) : State :=
  let old := (s.point p).cond
  let s1 := s.updPoint p (fun r => { r with cond := some c })
  match c with
  | .faulted => ((s1.report .e1 p).endSession p).setWaiting p
  | .idle => (s1.endSession p).updPoint p (fun r => { r with counter := count, accept := none, waiting := none })
  | .connected | .active =>
    if old = some .connected ∨ old = some .active then s1
    else ((s1.updPoint p (fun r => { r with waiting := none })).openingCheck p).plugCheck p
/-- R79: the condition. -/
def State.takeCond (s : State) (p count : Nat) (c : Cond) : State :=
  if (s.point p).cond = some c then s else s.changeCond p count c
/-- R79: a report of that point comes from the node of its cabinet. -/
def State.reportsPoint (s : State) (p source : Nat) : Bool :=
  s.hasPoint p && s.geo.cabinetNode (s.geo.point p).cabinet == source
/-- R79 to R82, R171: what a point report that is taken reads: the session and the vehicle at the point, and where a session
is open or the condition changes, the allocation. -/
def State.pointReads (p : Nat) (c : Cond) (s : State) : List Nat :=
  s.boundReads p ++ (s.parkedAt p).toList.flatMap s.slotReads ++ s.sessionReads p ++
  (if (s.session p).isSome || (s.point p).cond != some c then allocationReads ++ s.energyReads else [])
/-- R79: what a point report sets, in its order. -/
def State.pointReport (s : State) (p count kw : Nat) (c : Cond) : State :=
  ((s.takeCounter p count).takeAcceptance p kw).takeCond p count c
/-- R79, R171: a point report. The number of points, its point's settings and its cabinet's are read to judge where it comes from,
and nothing more of one from elsewhere. Condition code 0 is discarded as an undefined one (log entry 71). -/
def takePoint (m : InMsg) (s : State) : State :=
  let p := at8 m.payload 0
  match condOf (at8 m.payload 1) with
  | none => s
  | some c =>
    let u := s.reading (fun _ => [settingsRecord 1])
    if u.hasPoint p then
      let t := u.reading (fun _ => [pointSettings p, cabinetSettings])
      if t.reportsPoint p m.source.toNat then
        let s := t.reading (State.pointReads p c)
        if s.reportsPoint p m.source.toNat then s.pointReport p (at16 m.payload 2) (at16 m.payload 4) c else s
      else t
    else u

/-! ### SITE LIMIT (R96) -/

/-- R96: a site limit comes from the meter. -/
def State.fromMeter (s : State) (m : InMsg) : Bool := m.source.toNat == s.geo.meter
/-- R96, R171: a site limit; only the meter's is taken, and nothing more is read of another. -/
def takeLimit (m : InMsg) (u : State) : State :=
  let t := u.reading (fun _ => [settingsRecord 1])
  if t.fromMeter m then
    let s := t.reading State.budgetReads
    if s.fromMeter m then s.refreshBudget (at16 m.payload 0) .meter else s
  else t

/-! ### The commands -/

/-- LANE REPORT (R61). -/
def execLaneReport (passFirst : Bool) (s : State) : Host.Outcome State Fault Refusal :=
  .next (s.takeReport (fun m => m.kind == 0x14#8) (takeLane passFirst))
/-- POINT REPORT (R79). -/
def execPointReport (s : State) : Host.Outcome State Fault Refusal :=
  .next (s.takeReport (fun m => m.kind == 0x15#8) takePoint)
/-- SITE LIMIT (R96). -/
def execSiteLimit (s : State) : Host.Outcome State Fault Refusal :=
  .next (s.takeReport (fun m => m.kind == 0x16#8) takeLimit)

end Sys2Proof.Machine
end

