-- ==== Sys2Proof/Machine/TimeEvents.lean ====
section
/-! DEFINITION. The events of the clock and of the operations in flight (R32, R43, R64, R97, R113, R118, R128, R176,
R184, R187). -/

namespace Sys2Proof.Machine

/-- R170, R184: a minute passes, and errors arise in the records during the next. -/
def State.minuteEvent (s : State) (wear : List MemError) : State :=
  if s.clock.isSet then s.minutePasses.addErrors wear else s
/-- R184: the rollover as its own event, before the minute event of minute 0. -/
def State.rolloverEvent (s : State) : State :=
  if s.clock.isSet && s.clock.minute == Config.dayMinutes - 1 then
    let s' := s.nextDay
    State.rollBlocks { s' with clock := { s'.clock with minuteOwed := true } }
  else s
/-- R32: a bay's movement expires. -/
def State.bayExpiry (s : State) (b : Nat) : State :=
  if s.bayNums.contains b && s.bayDue b then
    let t := s.reading (fun u => settingsRecord 1 :: (u.bay b).occupant.toList ++ u.padReads)
    if t.bayDue b then t.expireBay b else t
  else s
/-- R43, R171: the movement of a wash head expires; the DIRECT to the next head takes the SERVICE address. -/
def State.washExpiry (s : State) (l : Nat) : State :=
  if s.washNums.contains l && s.washDue l then
    (s.reading (fun u => partReads ++ stationSettings :: (u.wash l).queue.map (·.vehicle))).expireWash l
  else s
/-- R64, R171: what the expiry of a movement reads, and the retry after it. -/
def State.movementReads (m : Movement) (s : State) : List Nat :=
  settingsRecord 1 :: (match m with
    | .leaving l v _ => v :: s.laneReads l
    | .arriving _ v _ | .reserved v => v :: s.berthReads v) ++ s.retryReads
/-- R60, R64: the first movement of a vehicle whose deadline has been reached expires. -/
def State.laneExpiry (s : State) (v : Nat) : State :=
  match s.dueMovements.find? (fun m => m.vehicle == v) with
  | some m => (s.reading (State.movementReads m)).minuteMove m
  | none => s
/-- R97, R171: the budget becomes STALE. -/
def State.budgetExpiry (s : State) : State :=
  if s.energy.budget.deadline.any s.reached then (s.reading State.budgetReads).staleBudget else s
/-- R118: a call times out. -/
def State.callExpiry (s : State) (n : Nat) : State :=
  match s.slot n with
  | some x =>
    if s.callDue x then
      (s.reading (fun u => x.record :: (x.assigned.map (·.1)).toList.flatMap (fun v => u.callReads v ++ u.keyReads v))).timeoutCall n
    else s
  | none => s
/-- R108, R113: the grace test comes about at a slot: where no attempts are made, or where its attempt would call
nobody. -/
def State.graceTested (s : State) (x : Slot) : Bool :=
  s.clock.isSet && (s.mode != .running || (s.due x && s.pick x == .nobody))
/-- R113: the grace test comes about at the slot of that number. -/
def State.graceDue (s : State) (n : Nat) : Bool := (s.slot n).any s.graceTested
/-- R107, R108, R111, R171: what the grace test reads: the grace and the slot, and in RUNNING what the attempt goes through
that calls nobody: the vehicles with their lanes, and the slots they hold. -/
def State.graceReads (n : Nat) (s : State) : List Nat :=
  settingsRecord 0 :: ((s.slot n).map (·.record)).toList ++
  (if s.mode = .running then
    s.fleet.vehicles.keys ++ s.laneNums.map laneRecord ++ s.assignedVehicles.flatMap s.slotReads
  else [])
/-- R113, R171: a slot's grace has passed; where the records of the attempt have changed its outcome the slot stands. -/
def State.graceExpiry (s : State) (n : Nat) : State :=
  if s.graceDue n then
    let t := s.reading (State.graceReads n)
    if t.graceDue n then
      (t.reading (fun u => ((u.slot n).bind (·.assigned)).toList.flatMap (fun a => u.keyReads a.1))).graceTest n
    else t
  else s
/-- R187: a settings store completes. -/
def State.storeComplete (s : State) : State :=
  match s.store.snapshot with
  | some st => State.raise { s with store := { valid := true, copy := st, snapshot := none } } .storeDone
  | none => s
/-- R176: a sparing copy completes, its bank checked as it was copied. -/
def State.sparingComplete (s : State) : State :=
  match s.faults.spare with
  | .copying b =>
    let s' := s.checkBank b
    { s' with faults := { s'.faults with spare := .serving b } }
  | .free | .serving _ => s

/-! ### The commands -/

/-- MINUTE EVENT (R184). -/
def execMinuteEvent (wear : List MemError) (s : State) : Host.Outcome State Fault Refusal := .next (s.minuteEvent wear)
/-- ROLLOVER (R184). -/
def execRollover (s : State) : Host.Outcome State Fault Refusal := .next s.rolloverEvent
/-- The movement to a bay expires (R32). -/
def execBayMovementExpiry (bay : Nat) (s : State) : Host.Outcome State Fault Refusal := .next (s.bayExpiry bay)
/-- The movement into a wash lane expires (R43). -/
def execWashMovementExpiry (lane : Nat) (s : State) : Host.Outcome State Fault Refusal := .next (s.washExpiry lane)
/-- A lane or overflow movement expires (R64). -/
def execLaneMovementExpiry (vehicle : Nat) (s : State) : Host.Outcome State Fault Refusal :=
  .next (s.laneExpiry vehicle)
/-- The budget becomes STALE (R97). -/
def execBudgetStale (s : State) : Host.Outcome State Fault Refusal := .next s.budgetExpiry
/-- A call times out (R118). -/
def execCallTimeout (slot : Nat) (s : State) : Host.Outcome State Fault Refusal := .next (s.callExpiry slot)
/-- A slot's grace has passed (R113). -/
def execGraceExpiry (slot : Nat) (s : State) : Host.Outcome State Fault Refusal := .next (s.graceExpiry slot)
/-- A settings store completes (R187). -/
def execStoreComplete (s : State) : Host.Outcome State Fault Refusal := .next s.storeComplete
/-- A sparing copy completes (R176). -/
def execSparingCopyComplete (s : State) : Host.Outcome State Fault Refusal := .next s.sparingComplete

end Sys2Proof.Machine
end

