-- ==== Sys2Proof/Machine/Dispatch.lean ====
section
/-! DEFINITION. One arm per command. -/

namespace Sys2Proof.Machine

/-- The effect of a command on everything but the queue. -/
def exec (i : Instr) (s : State) : Host.Outcome State Fault Refusal :=
  match i with
  | .enrolVehicle tag body => Sys2Proof.Machine.execEnrolVehicle tag body s
  | .amendVehicle tag body => Sys2Proof.Machine.execAmendVehicle tag body s
  | .retireVehicle tag body => Sys2Proof.Machine.execRetireVehicle tag body s
  | .readVehicle tag body => Sys2Proof.Machine.execReadVehicle tag body s
  | .holdVehicle tag body => Sys2Proof.Machine.execHoldVehicle tag body s
  | .setEnergy tag body => Sys2Proof.Machine.execSetEnergy tag body s
  | .readLane tag body => Sys2Proof.Machine.execReadLane tag body s
  | .closeLane tag body => Sys2Proof.Machine.execCloseLane tag body s
  | .openLane tag body => Sys2Proof.Machine.execOpenLane tag body s
  | .verifyLane tag body => Sys2Proof.Machine.execVerifyLane tag body s
  | .moveVehicle tag body => Sys2Proof.Machine.execMoveVehicle tag body s
  | .placeVehicle tag body => Sys2Proof.Machine.execPlaceVehicle tag body s
  | .readStation tag body => Sys2Proof.Machine.execReadStation tag body s
  | .closeStation tag body => Sys2Proof.Machine.execCloseStation tag body s
  | .openStation tag body => Sys2Proof.Machine.execOpenStation tag body s
  | .setBudget tag body => Sys2Proof.Machine.execSetBudget tag body s
  | .readEnergy tag body => Sys2Proof.Machine.execReadEnergy tag body s
  | .readSession tag body => Sys2Proof.Machine.execReadSession tag body s
  | .stopSession tag body => Sys2Proof.Machine.execStopSession tag body s
  | .resumeSession tag body => Sys2Proof.Machine.execResumeSession tag body s
  | .addSlot tag body => Sys2Proof.Machine.execAddSlot tag body s
  | .amendSlot tag body => Sys2Proof.Machine.execAmendSlot tag body s
  | .cancelSlot tag body => Sys2Proof.Machine.execCancelSlot tag body s
  | .assign tag body => Sys2Proof.Machine.execAssign tag body s
  | .unassign tag body => Sys2Proof.Machine.execUnassign tag body s
  | .readSlot tag body => Sys2Proof.Machine.execReadSlot tag body s
  | .clearStaged tag body => Sys2Proof.Machine.execClearStaged tag body s
  | .markStaged tag body => Sys2Proof.Machine.execMarkStaged tag body s
  | .commitPlan tag body => Sys2Proof.Machine.execCommitPlan tag body s
  | .callNow tag body => Sys2Proof.Machine.execCallNow tag body s
  | .listDue tag body => Sys2Proof.Machine.execListDue tag body s
  | .readClock tag body => Sys2Proof.Machine.execReadClock tag body s
  | .setClock tag body => Sys2Proof.Machine.execSetClock tag body s
  | .readSetting tag body => Sys2Proof.Machine.execReadSetting tag body s
  | .writeSetting tag body => Sys2Proof.Machine.execWriteSetting tag body s
  | .storeSettings tag body => Sys2Proof.Machine.execStoreSettings tag body s
  | .readNotices tag body => Sys2Proof.Machine.execReadNotices tag body s
  | .clearNotices tag body => Sys2Proof.Machine.execClearNotices tag body s
  | .setNoticeEnables tag body => Sys2Proof.Machine.execSetNoticeEnables tag body s
  | .readFault tag body => Sys2Proof.Machine.execReadFault tag body s
  | .releaseFault tag body => Sys2Proof.Machine.execReleaseFault tag body s
  | .beginCensus tag body => Sys2Proof.Machine.execBeginCensus tag body s
  | .finishCensus tag body => Sys2Proof.Machine.execFinishCensus tag body s
  | .enterConfigure tag body => Sys2Proof.Machine.execEnterConfigure tag body s
  | .leaveConfigure tag body => Sys2Proof.Machine.execLeaveConfigure tag body s
  | .stopYard tag body => Sys2Proof.Machine.execStopYard tag body s
  | .restart tag body => Sys2Proof.Machine.execRestart tag body s
  | .identify tag body => Sys2Proof.Machine.execIdentify tag body s
  | .readNodes tag body => Sys2Proof.Machine.execReadNodes tag body s
  | .unknownRequest code tag body => Sys2Proof.Machine.execUnknownRequest code tag body s
  | .busyAnswer code tag body => Sys2Proof.Machine.execBusyAnswer code tag body s
  | .frameDiscarded chars => Sys2Proof.Machine.execFrameDiscarded chars s
  | .frameGapTimeout => Sys2Proof.Machine.execFrameGapTimeout s
  | .responseComplete => Sys2Proof.Machine.execResponseComplete s
  | .powerOnReset => Sys2Proof.Machine.execPowerOnReset s
  | .lineReset => Sys2Proof.Machine.execLineReset s
  | .startupComplete => Sys2Proof.Machine.execStartupComplete s
  | .gateReadIn source gate vtag => Sys2Proof.Machine.execGateReadIn source gate vtag s
  | .gateReadOut source gate vtag => Sys2Proof.Machine.execGateReadOut source gate vtag s
  | .gateAnswerLost => Sys2Proof.Machine.execGateAnswerLost s
  | .reportReceived msg => Sys2Proof.Machine.execReportReceived msg s
  | .messageRefused msg => Sys2Proof.Machine.execMessageRefused msg s
  | .bayArrived => Sys2Proof.Machine.execBayArrived s
  | .bayDone => Sys2Proof.Machine.execBayDone s
  | .bayClear => Sys2Proof.Machine.execBayClear s
  | .bayFault => Sys2Proof.Machine.execBayFault s
  | .bayRestored => Sys2Proof.Machine.execBayRestored s
  | .washEntered => Sys2Proof.Machine.execWashEntered s
  | .washDone => Sys2Proof.Machine.execWashDone s
  | .washClear => Sys2Proof.Machine.execWashClear s
  | .washFault => Sys2Proof.Machine.execWashFault s
  | .washRestored => Sys2Proof.Machine.execWashRestored s
  | .laneReport passFirst => Sys2Proof.Machine.execLaneReport passFirst s
  | .pointReport => Sys2Proof.Machine.execPointReport s
  | .siteLimit => Sys2Proof.Machine.execSiteLimit s
  | .sendStart => Sys2Proof.Machine.execSendStart s
  | .arbitrationLost dest => Sys2Proof.Machine.execArbitrationLost dest s
  | .sendAcknowledged => Sys2Proof.Machine.execSendAcknowledged s
  | .sendNotAcknowledged destAcked => Sys2Proof.Machine.execSendNotAcknowledged destAcked s
  | .stuckBusTimeout => Sys2Proof.Machine.execStuckBusTimeout s
  | .minuteEvent wear => Sys2Proof.Machine.execMinuteEvent wear s
  | .rollover => Sys2Proof.Machine.execRollover s
  | .bayMovementExpiry bay => Sys2Proof.Machine.execBayMovementExpiry bay s
  | .washMovementExpiry lane => Sys2Proof.Machine.execWashMovementExpiry lane s
  | .laneMovementExpiry vehicle => Sys2Proof.Machine.execLaneMovementExpiry vehicle s
  | .budgetStale => Sys2Proof.Machine.execBudgetStale s
  | .callTimeout slot => Sys2Proof.Machine.execCallTimeout slot s
  | .graceExpiry slot => Sys2Proof.Machine.execGraceExpiry slot s
  | .storeComplete => Sys2Proof.Machine.execStoreComplete s
  | .sparingCopyComplete => Sys2Proof.Machine.execSparingCopyComplete s
  | .otherPartyTraffic => Sys2Proof.Machine.execOtherPartyTraffic s
  | .busSeenFree => Sys2Proof.Machine.execBusSeenFree s

end Sys2Proof.Machine
end

