-- ==== Sys2Proof/Safety.lean ====
section
/-! DEFINITION. The terms claims are stated in: what a command leaves alone, when a request is taken, what a response is,
which invariants hold, what bounds the spec sets. -/

namespace Sys2Proof.Machine

/-! ### What a command leaves alone -/

/-- What no operation of a job block writes: mode, clock, settings, store, link, the queue of commands, the bus but
for its unsent messages, the notices' enables and priorities, wear and spare. -/
structure Core where
  mode      : PartMode
  startup   : Bool
  clock     : Clock
  settings  : Settings
  store     : Store
  link      : Link
  pending   : List Instr
  iface     : Iface
  freeSeen  : Bool
  receiving : Option (Byte × List Role)
  answer    : Option (Byte × Answer)
  inbound   : List InMsg
  inFlight  : Option OutMsg
  nodes     : Tab Node
  enables   : BitVec 16
  urgents   : BitVec 16
  wear      : Tab Wear
  spare     : Spare
  deriving DecidableEq, Repr

/-- The core of a state. -/
def State.core (s : State) : Core :=
  { mode := s.mode, startup := s.startup, clock := s.clock, settings := s.settings, store := s.store, link := s.link,
    pending := s.pending, iface := s.bus.iface, freeSeen := s.bus.freeSeen, receiving := s.bus.receiving,
    answer := s.bus.answer, inbound := s.bus.inbound, inFlight := s.bus.inFlight, nodes := s.bus.nodes,
    enables := s.notices.enables, urgents := s.notices.urgents, wear := s.faults.wear, spare := s.faults.spare }

/-- The records of the job blocks other than the Energy Manager's. -/
structure Jobs where
  fleet   : Fleet
  service : Service
  yard    : Yard
  roster  : Roster
  deriving DecidableEq, Repr

/-- The records of the job blocks other than the Energy Manager's. -/
def State.jobs (s : State) : Jobs := { fleet := s.fleet, service := s.service, yard := s.yard, roster := s.roster }

/-! ### Requests -/

/-- R154, R188: a request that completes now is taken: start-up has ended and no response is on its way. -/
def State.ready (s : State) : Bool := !s.startup && s.link.service == .idle

/-- R154, R156: the link as the response to the request taken in `s` begins. -/
def State.linkAnswering (s : State) (code : Byte) (status : Status) (tag : Byte) (body : Bytes) : Link :=
  s.link.answering s.link.rate { code := code, status := status, tag := tag, body := body }

/-- The request taken in `s` is answered so in `t`, and the rest of the core is as it was. -/
def State.answers (s t : State) (code : Byte) (status : Status) (tag : Byte) (body : Bytes) : Prop :=
  t.core = { s.core with link := s.linkAnswering code status tag body }

/-- The command answers its request so, and nothing else changes. -/
def answersOnly (c : Instr) (s : State) (code : Byte) (tag : Byte) (r : Reply) : Prop :=
  exec c s = .next { s with link := s.linkAnswering code r.status tag r.body }

/-- R171: a check of the record changes nothing: it is marked already, or it has no error. -/
def State.passes (s : State) (n : Nat) : Bool := s.marked n || s.faults.errors.all (fun e => e.record != n)

/-- R171: no check of any record would find anything: every record that has an error is marked already. -/
def State.clean (s : State) : Bool := s.faults.errors.all (fun e => s.marked e.record)

/-! ### Reports -/

/-- R139, R194: the state with the report at the head of the inbound queue taken, `rest` behind it, but for the reports
of an undefined event that now stand at its head. -/
def State.taking (s : State) (rest : List InMsg) : State := s.setInbound rest
/-- R27: a bay report with that event at that bay. -/
def InMsg.isBay (m : InMsg) (event b : Nat) : Prop := m.kind = 0x12#8 ∧ at8 m.payload 0 = b ∧ at8 m.payload 1 = event
/-- R44: a wash report with that event at that lane. -/
def InMsg.isWash (m : InMsg) (event l : Nat) : Prop := m.kind = 0x13#8 ∧ at8 m.payload 0 = l ∧ at8 m.payload 1 = event

/-! ### The order of the lanes -/

/-- R68: the neighbouring pairs of a lane's occupancy list whose vehicle nearer the exit has the greater departure key. -/
def State.inversionPairs (s : State) (l : Nat) : Nat :=
  let es := (s.lane l).entries
  (es.zip es.tail).countP (fun x => decide ((s.vehicle x.2.vehicle).key < (s.vehicle x.1.vehicle).key))
/-- R68: `t` counts a lane's pairs as they stand in it, and a count that has risen from 0 since `s` has raised
BLOCK-CREATED. -/
def State.recounted (s t : State) (l : Nat) : Prop :=
  (t.lane l).inversions = t.inversionPairs l ∧
  ((s.lane l).inversions = 0 → 0 < (t.lane l).inversions → t.notices.pending &&& (1#16 <<< 2) ≠ 0#16)
/-- R17, R68: every configured lane is recounted. -/
def State.recountedAll (s t : State) : Prop := ∀ l, 1 ≤ l → l ≤ s.geo.numLanes → s.recounted t l

/-! ### Calls that end together -/

/-- R103, R109: a CALLED slot with its vehicle, that vehicle's fleet number, and its call. -/
def Slot.calls (x : Slot) (v f : Nat) (c : Call) : Prop := x.state = .called ∧ x.assigned = some (v, f) ∧ x.call = some c
/-- R103 to R105, R109: slot numbers are not repeated in the active plan, and each CALLED slot has a call and a DEPARTING
vehicle of its own. -/
def State.callsPlain (s : State) : Prop :=
  s.roster.active.Pairwise (fun x y => x.num ≠ y.num ∧
    ∀ v f g c d, x.calls v f c → ¬ y.calls v g d) ∧
  ∀ x ∈ s.roster.active, x.state = .called → ∃ v f c, x.calls v f c ∧ (s.vehicle? v).isSome = true ∧
    (s.vehicle v).state = .departing
/-- R110: a vehicle that was called stands at its place again, PARKED with a SETTLED entry, or IN-OVERFLOW; `r` is its record
but for state and location. -/
def State.standsAgain (s t : State) (v : Nat) (c : Call) (r : Vehicle) : Prop :=
  (∀ l p, c.place = .lane l p → t.vehicle v = { r with state := .parked, loc := .lane l p } ∧
    ∀ e ∈ (s.lane l).entries, e.vehicle = v → e.pos = p → { e with mark := .settled } ∈ (t.lane l).entries) ∧
  (∀ k, c.place = .spot k → t.vehicle v = { r with state := .inOverflow, loc := .overflow k })
/-- R110: a vehicle that was at APRON is OUT, with L5; `r` is its record but for state and location. -/
def State.leftUnconfirmed (t : State) (v : Nat) (r : Vehicle) : Prop :=
  t.vehicle v = { r with state := .out, loc := .absent } ∧ t.faults.summary &&& (1#32 <<< 9) ≠ 0#32
/-- R110, R179: every call of `s` is withdrawn in `t`: the slot is ASSIGNED and its vehicle stands again, or with the vehicle
at APRON the slot is GONE, unconfirmed, and the vehicle has left. -/
def State.callsWithdrawn (s t : State) : Prop :=
  ∀ x ∈ s.roster.active, ∀ v f c, x.calls v f c →
    ((s.vehicle v).loc ≠ .apron →
      t.slot x.num = some { x with state := .assigned, call := none } ∧ s.standsAgain t v c (s.vehicle v)) ∧
    ((s.vehicle v).loc = .apron →
      t.slot x.num = some { x with
        state := .gone, last := some (v, f), assigned := none, call := none, unconfirmed := true } ∧
      t.leftUnconfirmed v { s.vehicle v with assignment := none, key := 1440 })
/-- R110, R128: every call of `s` has been settled by the rollover that gave `t`, which then gave assignments and keys
afresh. -/
def State.callsSettled (s t : State) : Prop :=
  ∀ x ∈ s.roster.active, ∀ v f c, x.calls v f c →
    let r := { s.vehicle v with assignment := (t.vehicle v).assignment, key := (t.vehicle v).key }
    ((s.vehicle v).loc ≠ .apron → s.standsAgain t v c r) ∧ ((s.vehicle v).loc = .apron → t.leftUnconfirmed v r)
/-- R110: the CANCEL CALL for a slot whose call was `c`. -/
def State.cancelCallFor (s : State) (c : Call) (n : Nat) : OutMsg :=
  { dest := c.node, source := s.geo.serviceAddr, urgent := true, body := .cancelCall c.place n }

/-! ### The yard bus -/

/-- R177: the YARD STATE of a change of mode waits in the URGENT class, or held over where the queue had no place for it. -/
def State.tellsYard (s t : State) (m : PartMode) : Prop :=
  let msg : OutMsg := { dest := 0, source := s.geo.serviceAddr, urgent := true, body := .yardState m }
  msg ∈ t.bus.urgent ++ t.bus.heldOver ∧ (s.bus.outFull = false → s.bus.heldOver = [] → msg ∈ t.bus.urgent)
/-- R141, R143, R147: a message has left the queue: the messages held over have taken its place in their order as far as there
was one, and the NORMAL class has lost nothing and gained at most one POLL. -/
def State.keepsQueue (s t : State) : Prop :=
  (∃ n, t.bus.urgent = s.bus.urgent ++ s.bus.heldOver.take n ∧ t.bus.heldOver = s.bus.heldOver.drop n) ∧
  (t.bus.normal = s.bus.normal ∨ ∃ q, q.body = .poll ∧ t.bus.normal = s.bus.normal ++ [q])

/-- R136, R140, R146: another party may begin a message, and its source is one the part acknowledges. -/
def State.hears (s : State) (source : Byte) : Prop :=
  s.startup = false ∧ s.bus.iface ≠ .sending ∧ 1 ≤ source.toNat ∧ source.toNat ≤ 62
/-- R136, R146: a transaction of that source has begun, and the source, if it is a node of the table, is heard. -/
def State.hearing (s : State) (source : Byte) : State := s.newTransaction.markHeard source.toNat
/-- R140: the answer is formed and on its way to the source. -/
def State.answering (s : State) (source : Byte) (a : Answer) : State :=
  { s with bus := { s.bus with iface := .answering, answer := some (source, a) } }
/-- R116, R117: a gate read OUT releases a vehicle for a slot. -/
def releasedAnswer (n fleet : Nat) : Answer := { outcome := .released, kind := .slot, number := n, fleet := fleet }

/-! ### Invariants -/

/-- R136, R138, R141, R143: the queues keep their bounds, a message is held over only while the queue is full, and a
message is in flight just while the part sends. -/
def State.queuesOk (s : State) : Prop :=
  s.bus.inbound.length ≤ Config.inboundMax ∧ s.bus.outCount ≤ Config.outboundMax ∧
  (s.bus.heldOver ≠ [] → s.bus.outFull = true) ∧ (s.bus.inFlight.isSome = true ↔ s.bus.iface = .sending)

/-- R77, R91, R98: a session is open only at a configured point, and the grants of the open sessions add up to no more
than the effective budget. -/
def State.grantsOk (s : State) : Prop :=
  (∀ p, (s.session p).isSome = true → 1 ≤ p ∧ p ≤ s.geo.numPoints) ∧ s.grantSum ≤ s.effective

/-- R177: the changes of mode that the table of modes allows, for a part that is not reset. -/
def modeStep (a b : PartMode) : Prop :=
  a = b ∨ (a = .configure ∧ b = .census) ∨ (a = .census ∧ b = .running) ∨ (a = .census ∧ b = .configure) ∨
  (a = .running ∧ b = .census) ∨ (a ≠ .safe ∧ b = .safe) ∨ (a = .safe ∧ b = .census)

end Sys2Proof.Machine
end

