-- ==== Sys2Proof/Certificates/Slice0/Obligations.lean ====
section
/-! DEFINITION. The statements for the provers: what the rules of spec/ say the commands do. -/

open Sys2Proof Sys2Proof.Machine

/-- The model's choice, log entry 12: one command of the queue a step. -/
def Obligations.StepRunsFrontCommand : Prop :=
  ∀ (c : Instr) (s : State), step { s with pending := c :: s.pending } = exec c s

/-- R19, R20, R23, R26, R39, R50, R53, R60, R77, R96, R98, R131, R147, R149, R151, R158, R159, R169, R175, R176, R178,
R184, R188: what every reset leaves in every block; for RESTART it comes with the last byte of the response. In CENSUS a
POLL may wait behind the YARD STATE. -/
def Obligations.ResetLeavesBlocksEmpty : Prop :=
  ∀ (c : Instr) (s : State),
    (c = .powerOnReset ∨ c = .lineReset ∨
      (c = .responseComplete ∧ s.link.restarting = true ∧ ∃ r b, s.link.service = .inService r b)) →
    ∃ t, exec c s = .next t ∧
      t.startup = true ∧ t.clock.isSet = false ∧ t.attnU = false ∧ t.attnR = false ∧ t.pending = s.pending ∧
      t.settings = (if s.store.valid then s.store.copy else .default) ∧
      t.mode = (if s.store.valid then .census else .configure) ∧
      t.store = { valid := s.store.valid, copy := s.store.copy, snapshot := none } ∧
      (∀ v, t.vehicle? v = none) ∧ (∀ n, t.byFleet n = none) ∧ (∀ n, t.byTag n = none) ∧
      t.service.gate1 = [] ∧ t.service.gate2 = [] ∧ (∀ p, t.pad p = none) ∧
      (∀ b, t.bay b = { state := .free, closing := false, occupant := none, onward := false, deadline := none }) ∧
      (∀ l, t.wash l = { state := .idle, closing := false, occupant := none, queue := [] }) ∧
      (∀ l, t.lane l = { state := .unverified, closing := false, entries := [], inversions := 0, image := 0#8 }) ∧
      (∀ n, t.spot n = none) ∧ t.yard.stranded = [] ∧
      (∀ p, t.point p = { cond := none, stop := none, counter := 0, accept := none, held := some 0, issued := some 0,
                          waiting := none, session := none }) ∧
      t.energy.budget = { fresh := false, last := none, deadline := none } ∧ t.effective = t.beh.fallback ∧
      t.roster = { active := [], staged := [], ready := false } ∧
      t.bus.iface = .idle ∧ t.bus.inbound = [] ∧ t.bus.heldOver = [] ∧ t.bus.inFlight = none ∧
      t.bus.receiving = none ∧ t.bus.answer = none ∧ t.bus.freeSeen = false ∧
      t.bus.urgent = [{ dest := 0, source := t.geo.serviceAddr, urgent := true, body := .yardState t.mode }] ∧
      (t.mode = .configure → t.bus.normal = []) ∧
      (t.mode = .census → ∀ m ∈ t.bus.normal, m.body = .poll ∧ (t.bus.nodes.get? m.dest).isSome = true) ∧
      t.bus.normal.length ≤ 1 ∧
      (∀ a r, t.bus.nodes.get? a = some r → r.live = .unheard ∧ r.heard = false ∧ r.poll = (t.mode == .census)) ∧
      t.link = { rx := .hunting, service := .idle, rate := t.beh.linkRate, restarting := false } ∧
      t.notices.enables = 0xFFFF#16 ∧ t.notices.urgents = 0x1BF8#16 ∧
      (s.store.valid = true → t.notices.pending = 0#16) ∧
      (s.store.valid = false → t.notices.pending =
        if c = .powerOnReset ∨ s.faults.capture.all (fun x => decide (x.code.cls = 0)) then 0x1000#16 else 0#16) ∧
      t.faults.marks = [] ∧ t.faults.errors = [] ∧ (∀ b, t.wear b = { count := 0, worn := false }) ∧
      t.faults.spare = (match s.faults.spare with
        | .serving b => if c = .powerOnReset then .free else .serving b
        | .copying _ | .free => .free)

/-- R169: the capture, the summary set and the count after each kind of reset, and C1 judged against them. -/
def Obligations.ResetKeepsOrEmptiesCapture : Prop :=
  ∀ (c : Instr) (s : State),
    (c = .powerOnReset ∨ c = .lineReset ∨
      (c = .responseComplete ∧ s.link.restarting = true ∧ ∃ r b, s.link.service = .inService r b)) →
    ∃ t, exec c s = .next t ∧
      (c = .powerOnReset → s.store.valid = true →
        t.faults.capture = none ∧ t.faults.summary = 0#32 ∧ t.faults.count = 0) ∧
      (c = .powerOnReset → s.store.valid = false →
        t.faults.capture = some { code := .c1, subject := 0, time := none } ∧ t.faults.summary = 1#32 <<< 24 ∧
        t.faults.count = 0) ∧
      (c ≠ .powerOnReset → s.store.valid = true →
        t.faults.capture = s.faults.capture ∧ t.faults.summary = s.faults.summary ∧ t.faults.count = s.faults.count) ∧
      (c ≠ .powerOnReset → s.store.valid = false →
        t.faults.summary = s.faults.summary ||| (1#32 <<< 24) ∧
        (∀ x, s.faults.capture = some x → 1 ≤ x.code.cls →
          t.faults.capture = some x ∧ t.faults.count = min 255 (s.faults.count + 1)) ∧
        (∀ x, s.faults.capture = some x → x.code.cls = 0 →
          t.faults.capture = some { code := .c1, subject := 0, time := none } ∧
          t.faults.count = min 255 (s.faults.count + 1)) ∧
        (s.faults.capture = none →
          t.faults.capture = some { code := .c1, subject := 0, time := none } ∧ t.faults.count = s.faults.count))

/-- R160, R188: start-up: frames, characters, bus traffic and sending have no effect until it ends. The model's choice in
it: log entry 18. -/
def Obligations.StartupTakesNothing : Prop :=
  ∀ s : State, s.startup = true →
    (∀ code tag body, exec (.unknownRequest code tag body) s = .next s) ∧
    (∀ chars, exec (.frameDiscarded chars) s = .next s) ∧
    (∀ msg, exec (.reportReceived msg) s = .next s ∧ exec (.messageRefused msg) s = .next s) ∧
    (∀ src gate tag, exec (.gateReadIn src gate tag) s = .next s ∧ exec (.gateReadOut src gate tag) s = .next s) ∧
    exec .sendStart s = .next s ∧ exec .otherPartyTraffic s = .next s ∧ exec .busSeenFree s = .next s ∧
    s.attnU = false ∧ s.attnR = false ∧
    ∃ t, exec .startupComplete s = .next t ∧ t = { s with startup := false, link := { s.link with rx := .hunting } }

/-- R154, R155, R158: a good frame while a request is in service, and with a BUSY answer waiting or being sent. R151,
R155, R156, R158: the last byte of a response leaves HTX; the BUSY answer that waits is sent next, and its frame; the
settings record read for the link rate has no error to be found. The model's choices in it: log entries 13, 17. -/
def Obligations.ServiceAndResponses : Prop :=
  (∀ (code tag : Byte) (body : Bytes) (s : State), s.startup = false →
     (∀ r, s.link.service = .inService r none →
       exec (.busyAnswer code tag body) s = .next { s with link :=
         { s.link with
           rx := .hunting
           service := .inService r (some { code := code, status := .busy, tag := tag, body := [] }) } }) ∧
     ((∃ r b, s.link.service = .inService r (some b)) ∨ (∃ b, s.link.service = .sendingBusy b) →
       ∃ t, exec (.busyAnswer code tag body) s = .next t ∧ t.link = { s.link with rx := .hunting } ∧
         t.core = { s.core with link := { s.link with rx := .hunting } } ∧ t.jobs = s.jobs ∧ t.energy = s.energy ∧
         t.bus = s.bus ∧ t.faults = (s.report .h1 5).faults ∧
         t.notices.pending = (s.report .h1 5).notices.pending ||| (1#16 <<< 15))) ∧
  ((∀ code tag : Byte, ({ code := code, status := .busy, tag := tag, body := [] } : Response).frame =
     [0xA5#8, 3#8, code, 1#8, tag] ++ be16 (crc16 [3#8, code, 1#8, tag]).toNat) ∧
   ∀ s : State, s.link.restarting = false → s.passes (settingsRecord 0) = true →
     (s.link.service = .idle → exec .responseComplete s = .next s) ∧
     (∀ r, s.link.service = .inService r none →
       exec .responseComplete s = .next { s with link := { s.link with service := .idle, rate := s.beh.linkRate } }) ∧
     (∀ r b, s.link.service = .inService r (some b) →
       exec .responseComplete s =
         .next { s with link := { s.link with service := .sendingBusy b, rate := s.beh.linkRate } }) ∧
     (∀ b, s.link.service = .sendingBusy b →
       exec .responseComplete s = .next { s with link := { s.link with service := .idle, rate := s.beh.linkRate } }))

/-- R151, R152, R155, R189, R190: the characters of a request frame, arriving in HUNTING without an error or a gap, have
the effect of that request, for every code, tag and body; how a byte is made up as a character, and which characters
are good. The model's choice in it: log entry 16. -/
def Obligations.FrameCharactersAreTheRequest : Prop :=
  (∀ (code tag : Byte) (body : Bytes) (s : State) (chars : List RxChar), body.length ≤ 74 → s.startup = false →
    s.link.rx = .hunting → chars.map RxChar.value = requestFrame code tag body → (∀ c ∈ chars, c.good = true) →
    ∃ t, exec (.unknownRequest code tag body) s = .next t ∧ exec (.frameDiscarded chars) s = .next t) ∧
  (∀ b : Byte, (charOf b).getLsbD 0 = false ∧ (∀ i, i < 8 → (charOf b).getLsbD (i + 1) = b.getLsbD i) ∧
    ((List.range 9).countP (fun i => (charOf b).getLsbD (i + 1))) % 2 = 0 ∧ (charOf b).getLsbD 10 = true ∧
    (RxChar.ofByte b).value = b ∧ (RxChar.ofByte b).good = true) ∧
  (∀ c : RxChar, (∀ i, i < 8 → c.value.getLsbD i = c.line.getLsbD i) ∧
    (c.good = true ↔ ((List.range 9).countP (fun i => c.line.getLsbD i)) % 2 = 0 ∧ c.line.getLsbD 9 = true))

/-- R152, R153: what discards a frame that has begun, with its H1 subject: a bad character, a gap, a length, a CRC. The
receiver hunts again and no block is touched. The model's choice in it: log entry 13. -/
def Obligations.FrameErrorsAreDiscarded : Prop :=
  ∀ s : State, s.startup = false →
    (∀ c : RxChar, s.link.rx = .hunting → ¬ (c.good = true ∧ c.value = 0xA5#8) →
      exec (.frameDiscarded [c]) s = .next s) ∧
    (∀ k chars, ((k = 1 ∧ s.link.rx ≠ .hunting ∧ ∃ c : RxChar, chars = [c] ∧ c.good = false) ∨
        (k = 3 ∧ s.link.rx = .length ∧ ∃ c : RxChar, chars = [c] ∧ c.good = true ∧ (c.value.toNat < 2 ∨ 76 < c.value.toNat)) ∨
        (k = 4 ∧ ∃ (len : Nat) (got : Bytes) (c : RxChar), s.link.rx = .collecting len got ∧ got.length = len + 1 ∧
          chars = [c] ∧ c.good = true ∧ (c.value :: got).reverse.drop len ≠
            be16 (crc16 (BitVec.ofNat 8 len :: (c.value :: got).reverse.take len)).toNat)) →
      ∃ t, exec (.frameDiscarded chars) s = .next t ∧ t.core = { s.core with link := { s.link with rx := .hunting } } ∧
        t.jobs = s.jobs ∧ t.energy = s.energy ∧ t.bus = s.bus ∧ t.faults = (s.report .h1 k).faults ∧
        t.notices.pending = (s.report .h1 k).notices.pending ||| (1#16 <<< 15)) ∧
    (s.link.rx = .hunting → exec .frameGapTimeout s = .next s) ∧
    (s.link.rx ≠ .hunting →
      ∃ t, exec .frameGapTimeout s = .next t ∧ t.core = { s.core with link := { s.link with rx := .hunting } } ∧
        t.jobs = s.jobs ∧ t.energy = s.energy ∧ t.bus = s.bus ∧ t.faults = (s.report .h1 2).faults ∧
        t.notices.pending = (s.report .h1 2).notices.pending ||| (1#16 <<< 15))

/-- R157: a code that is not assigned is answered UNKNOWN, and nothing else changes. R157, R190: every request with a body
of another length than 12.2 gives is MALFORMED and changes nothing. -/
def Obligations.RequestsRefusedUnread : Prop :=
  (∀ (code tag : Byte) (body : Bytes) (s : State), s.ready = true →
     (code.toNat = 0 ∨ (0x07 ≤ code.toNat ∧ code.toNat ≤ 0x1F) ∨ (0x29 ≤ code.toNat ∧ code.toNat ≤ 0x3F) ∨
       (0x45 ≤ code.toNat ∧ code.toNat ≤ 0x5F) ∨ (0x6B ≤ code.toNat ∧ code.toNat ≤ 0x7F) ∨ 0x92 ≤ code.toNat) →
     answersOnly (.unknownRequest code tag body) s code tag { status := .unknown, body := [] }) ∧
  (∀ (tag : Byte) (body : Bytes) (s : State), s.ready = true →
     ∀ (c : Instr) (code : Byte) (n : Nat), (c, code, n) ∈ [
       (.enrolVehicle tag body, 0x01#8, 18), (.amendVehicle tag body, 0x02#8, 27), (.retireVehicle tag body, 0x03#8, 5),
       (.readVehicle tag body, 0x04#8, 5), (.holdVehicle tag body, 0x05#8, 6), (.setEnergy tag body, 0x06#8, 7),
       (.readLane tag body, 0x20#8, 1), (.closeLane tag body, 0x21#8, 1), (.openLane tag body, 0x22#8, 1),
       (.verifyLane tag body, 0x23#8, 2 + 3 * at8 body 1), (.moveVehicle tag body, 0x24#8, 4),
       (.placeVehicle tag body, 0x25#8, 5), (.readStation tag body, 0x26#8, 2), (.closeStation tag body, 0x27#8, 2),
       (.openStation tag body, 0x28#8, 2), (.setBudget tag body, 0x40#8, 2), (.readEnergy tag body, 0x41#8, 0),
       (.readSession tag body, 0x42#8, 1), (.stopSession tag body, 0x43#8, 1), (.resumeSession tag body, 0x44#8, 1),
       (.addSlot tag body, 0x60#8, 12), (.amendSlot tag body, 0x61#8, 13), (.cancelSlot tag body, 0x62#8, 3),
       (.assign tag body, 0x63#8, 7), (.unassign tag body, 0x64#8, 3), (.readSlot tag body, 0x65#8, 3),
       (.clearStaged tag body, 0x66#8, 0), (.markStaged tag body, 0x67#8, 1), (.commitPlan tag body, 0x68#8, 0),
       (.callNow tag body, 0x69#8, 2), (.listDue tag body, 0x6A#8, 0), (.readClock tag body, 0x80#8, 0),
       (.setClock tag body, 0x81#8, 4), (.readSetting tag body, 0x82#8, 3), (.writeSetting tag body, 0x83#8, 5),
       (.storeSettings tag body, 0x84#8, 0), (.readNotices tag body, 0x85#8, 0), (.clearNotices tag body, 0x86#8, 4),
       (.setNoticeEnables tag body, 0x87#8, 18), (.readFault tag body, 0x88#8, 0), (.releaseFault tag body, 0x89#8, 1),
       (.beginCensus tag body, 0x8A#8, 0), (.finishCensus tag body, 0x8B#8, 0), (.enterConfigure tag body, 0x8C#8, 0),
       (.leaveConfigure tag body, 0x8D#8, 0), (.stopYard tag body, 0x8E#8, 0), (.restart tag body, 0x8F#8, 0),
       (.identify tag body, 0x90#8, 0), (.readNodes tag body, 0x91#8, 0)] →
     body.length ≠ n → answersOnly c s code tag { status := .malformed, body := [] })

/-! ### Fleet (chapter 1) -/

/-- R1, R2, R3, R4, R6: ENROL VEHICLE that passes its checks, with the lowest free index `v`. R6: the refusals of ENROL
VEHICLE, in the order of its checks. The model's choice in it: log entry 42. -/
def Obligations.EnrolCreatesOrRefuses : Prop :=
  (∀ (tag : Byte) (body : Bytes) (s : State) (v : Nat) (cls : BodyClass) (drive : Drive),
     s.ready = true → body.length = 18 → at16 body 0 ≠ 0 → bodyOf (at8 body 6) = some cls →
     driveOf (at8 body 7) = some drive → at8 body 15 ≤ 1 →
     (drive = .battery → 100 ≤ at16 body 8 ∧ at16 body 8 ≤ 9999 ∧ 10 ≤ at16 body 12 ∧ at16 body 12 ≤ 600) →
     s.byFleet (at16 body 0) = none → s.byTag (at32 body 2) = none →
     v < 320 → s.vehicle? v = none → (∀ w, w < v → (s.vehicle? w).isSome = true) →
     ∃ t, exec (.enrolVehicle tag body) s = .next t ∧ s.answers t 0x01#8 .done tag (be16 v) ∧
       t.vehicle? v = some {
         fleet := at16 body 0
         tag := if at32 body 2 = 0 then none else some (at32 body 2)
         body := cls
         drive := drive
         capacity := if drive = .battery then at16 body 8 else 0
         soe := if drive = .battery then min (at16 body 10) (at16 body 8) else 0
         acceptance := if drive = .battery then at16 body 12 else 0
         washInterval := min (at8 body 14) 60
         lastWash := if at8 body 15 = 1 then some (at16 body 16) else none
         hold := none
         passOver := 0
         state := .out
         loc := .absent
         assignment := none
         key := 1440 } ∧
       t.damaged v = false ∧ (∀ w, w ≠ v → t.vehicle? w = s.vehicle? w) ∧
       (∀ n, t.byFleet n = if n = at16 body 0 then some v else s.byFleet n) ∧
       (∀ k, t.byTag k = if k = at32 body 2 ∧ k ≠ 0 then some v else s.byTag k) ∧
       t.service = s.service ∧ t.yard = s.yard ∧ t.energy = s.energy ∧ t.roster = s.roster ∧ t.bus = s.bus ∧
       t.notices = s.notices) ∧
  (∀ (tag : Byte) (body : Bytes) (s : State), s.ready = true → body.length = 18 →
     let formed := at16 body 0 ≠ 0 ∧ at8 body 6 < 4 ∧ at8 body 7 < 2 ∧ at8 body 15 ≤ 1
     let ranged := at8 body 7 = 1 →
       100 ≤ at16 body 8 ∧ at16 body 8 ≤ 9999 ∧ 10 ≤ at16 body 12 ∧ at16 body 12 ≤ 600
     let new := s.byFleet (at16 body 0) = none ∧ s.byTag (at32 body 2) = none
     (¬ formed → answersOnly (.enrolVehicle tag body) s 0x01#8 tag { status := .malformed, body := [] }) ∧
     (formed → ¬ ranged → answersOnly (.enrolVehicle tag body) s 0x01#8 tag { status := .outOfRange, body := [] }) ∧
     (formed → ranged → ¬ new →
       answersOnly (.enrolVehicle tag body) s 0x01#8 tag { status := .conflict, body := [] }) ∧
     (formed → ranged → new → (∀ v, v < 320 → (s.vehicle? v).isSome = true) →
       answersOnly (.enrolVehicle tag body) s 0x01#8 tag { status := .full, body := [] }))

/-- R11, R13: the refusals of AMEND VEHICLE in the order of its checks, the rewrite of a damaged record among them; a
field that is named with the value it has counts as unchanged. R4, R11, R12: AMEND VEHICLE on a record that is not
damaged, when its checks pass: the fields named, the map entries, and what the Energy Manager is passed; then with a
hold that withdraws the call of a vehicle still at its place. The model's choices in it: log entries 41, 42, 57. -/
def Obligations.AmendChangesNamedFields : Prop :=
  (∀ (tag : Byte) (body : Bytes) (s : State) (v : Nat),
     s.ready = true → body.length = 27 → s.select body = .ok v → (s.vehicle? v).isSome = true → s.clean = true →
     let refused := fun x => answersOnly (.amendVehicle tag body) s 0x02#8 tag { status := x, body := [] }
     let mask := at16 body 5
     let r := s.vehicle v
     let drive := if mask.testBit 3 then (driveOf (at8 body 14)).getD .diesel else r.drive
     let cls := if mask.testBit 2 then (bodyOf (at8 body 13)).getD .standard else r.body
     let fleet := if mask.testBit 0 then at16 body 7 else r.fleet
     let vtag := if mask.testBit 1 then (if at32 body 9 = 0 then none else some (at32 body 9)) else r.tag
     let cap := if mask.testBit 4 then at16 body 15 else r.capacity
     let soe := if mask.testBit 5 then at16 body 17 else r.soe
     let acc := if mask.testBit 6 then at16 body 19 else r.acceptance
     let formed := mask ≤ 0x7FF ∧ (mask.testBit 0 = true → at16 body 7 ≠ 0) ∧ (mask.testBit 2 = true → at8 body 13 < 4) ∧
       (mask.testBit 3 = true → at8 body 14 < 2) ∧ (mask.testBit 8 = true → at8 body 22 ≤ 1)
     let ranged := drive = .battery → 100 ≤ cap ∧ cap ≤ 9999 ∧ 10 ≤ acc ∧ acc ≤ 600
     let kept := s.damaged v = true ∨ r.state = .out ∨ r.state = .unknown ∨ (cls = r.body ∧ drive = r.drive)
     let still := s.damaged v = true ∨ s.sessionPoint v = none ∨
       ((if drive = .battery then cap else 0) = r.capacity ∧ (if drive = .battery then min soe cap else 0) = r.soe)
     let holdable := ¬ (mask.testBit 9 = true ∧ at8 body 25 ≠ 0 ∧ r.state = .departing ∧ r.loc = .apron)
     let single := (∀ w, s.byFleet fleet = some w → w = v) ∧ (∀ k w, vtag = some k → s.byTag k = some w → w = v)
     let suited := (s.damaged v = false ∧ cls = r.body ∧ drive = r.drive) ∨
       (∀ n x, r.assignment = some n → s.slot n = some x → accepts x.bodies x.drives cls drive = true)
     (¬ formed → refused .malformed) ∧
     (formed → s.damaged v = true → mask ≠ 0x7FF → refused .damaged) ∧
     (formed → (s.damaged v = true → mask = 0x7FF) →
       (¬ ranged → refused .outOfRange) ∧
       (ranged → ¬ kept ∨ ¬ still ∨ ¬ holdable → refused .wrongState) ∧
       (ranged → kept → still → holdable → ¬ single ∨ ¬ suited → refused .conflict))) ∧
  (∀ (tag : Byte) (body : Bytes) (s : State) (v : Nat),
     s.ready = true → body.length = 27 → s.select body = .ok v → (s.vehicle? v).isSome = true → s.clean = true →
     s.damaged v = false →
     let mask := at16 body 5
     let r := s.vehicle v
     let drive := if mask.testBit 3 then (driveOf (at8 body 14)).getD .diesel else r.drive
     let cls := if mask.testBit 2 then (bodyOf (at8 body 13)).getD .standard else r.body
     let fleet := if mask.testBit 0 then at16 body 7 else r.fleet
     let vtag := if mask.testBit 1 then (if at32 body 9 = 0 then none else some (at32 body 9)) else r.tag
     let cap := if mask.testBit 4 then at16 body 15 else r.capacity
     let soe := if mask.testBit 5 then at16 body 17 else r.soe
     let acc := if mask.testBit 6 then at16 body 19 else r.acceptance
     let cap' := if drive = .battery then cap else 0
     let soe' := if drive = .battery then min soe cap else 0
     let acc' := if drive = .battery then acc else 0
     let r' := { r with
       fleet := fleet
       tag := vtag
       body := cls
       drive := drive
       capacity := cap'
       soe := soe'
       acceptance := acc'
       washInterval := min (if mask.testBit 7 then at8 body 21 else r.washInterval) 60
       lastWash := if mask.testBit 8 then (if at8 body 22 = 1 then some (at16 body 23) else none) else r.lastWash
       hold := if mask.testBit 9 then (if at8 body 25 = 0 then none else some (at8 body 25)) else r.hold
       passOver := min (if mask.testBit 10 then at8 body 26 else r.passOver) 15 }
     let mapped := fun (t : State) =>
       (∀ n, t.byFleet n = if n = fleet then some v else if n = r.fleet then none else s.byFleet n) ∧
       (∀ k, k ≠ 0 → t.byTag k = if vtag = some k then some v else if r.tag = some k then none else s.byTag k)
     mask ≤ 0x7FF → fleet ≠ 0 → (mask.testBit 2 = true → at8 body 13 < 4) → (mask.testBit 3 = true → at8 body 14 < 2) →
     (mask.testBit 8 = true → at8 body 22 ≤ 1) →
     (drive = .battery → 100 ≤ cap ∧ cap ≤ 9999 ∧ 10 ≤ acc ∧ acc ≤ 600) →
     (r.state = .out ∨ r.state = .unknown ∨ (cls = r.body ∧ drive = r.drive)) →
     (s.sessionPoint v = none ∨ (cap' = r.capacity ∧ soe' = r.soe)) →
     (∀ w, s.byFleet fleet = some w → w = v) → (∀ k w, vtag = some k → s.byTag k = some w → w = v) →
     (∀ n x, r.assignment = some n → s.slot n = some x → accepts x.bodies x.drives cls drive = true) →
     ((mask.testBit 9 = true → at8 body 25 ≠ 0 → r.state ≠ .departing) →
       ∃ t, exec (.amendVehicle tag body) s = .next t ∧ s.answers t 0x02#8 .done tag [] ∧
         t.vehicle v = r' ∧ (∀ w, w ≠ v → t.vehicle? w = s.vehicle? w) ∧ mapped t ∧
         t.service = s.service ∧ t.yard = s.yard ∧ (fleet = r.fleet → t.roster = s.roster) ∧
         (s.sessionPoint v ≠ none →
           let u := if acc' = r.acceptance then s else State.recompute { s with fleet := t.fleet }
           t.energy = u.energy ∧ t.bus = u.bus ∧ t.faults = u.faults ∧ t.notices = u.notices) ∧
         (s.sessionPoint v = none →
           t.bus = s.bus ∧ t.faults = s.faults ∧ t.energy.budget = s.energy.budget ∧
           (∀ p, t.point p = { s.point p with waiting := (t.point p).waiting }) ∧
           (soe' = r.soe → cap' = r.capacity → t.energy = s.energy ∧ t.notices = s.notices) ∧
           (∀ p, soe' ≠ r.soe ∨ cap' ≠ r.capacity → drive = .battery →
             s.pointNums.find? (fun q => s.parkedAt q == some v) = some p →
             ((s.point p).state = .offline ∨ (s.point p).state = .faulted) → (s.point p).session = none →
             (t.point p).waiting = some (if 0 < t.needOf v then .unreachable else .complete)))) ∧
     (∀ n x f c, mask.testBit 9 = true → at8 body 25 ≠ 0 → r.state = .departing → fleet = r.fleet →
       r.assignment = some n → s.slot n = some x → x.assigned = some (v, f) → x.call = some c →
       (∀ l p, c.place = .lane l p → r.loc = .lane l p) → (∀ k, c.place = .spot k → r.loc = .overflow k) →
       ∃ t, exec (.amendVehicle tag body) s = .next t ∧ s.answers t 0x02#8 .done tag [] ∧
         t.vehicle v = { r' with
           state := (match c.place with | .lane _ _ => VehState.parked | .spot _ => VehState.inOverflow) } ∧
         (∀ w, w ≠ v → t.vehicle? w = s.vehicle? w) ∧ mapped t ∧
         t.slot n = some { x with state := .assigned, call := none } ∧
         (∀ m, m ≠ n → t.slot m = s.slot m) ∧ t.roster.staged = s.roster.staged ∧ t.service = s.service ∧
         t.yard.spots = s.yard.spots ∧
         (∀ l p, c.place = .lane l p →
           (t.lane l).entries = (s.lane l).entries.map (fun e =>
             if e.vehicle = v ∧ e.pos = p then { e with mark := .settled } else e) ∧
           (∀ k, k ≠ l → t.lane k = s.lane k)) ∧
         (s.bus.outFull = false → s.bus.heldOver = [] →
           ({ dest := c.node, source := s.geo.serviceAddr, urgent := true,
              body := .cancelCall c.place n } : OutMsg) ∈ t.bus.urgent)))

/-- R1, R2, R4, R13: AMEND VEHICLE on a damaged record: a partial mask is DAMAGED; a full one gives every host-set field the
request's value, brought into its range, makes the two lookups follow, clears the mark and leaves state, location,
assignment and key; a vehicle that stands PARKED at a position with the plug in is told of as an arrival, so that its
session opens, and at a dead one it has its waiting grade. -/
def Obligations.RewriteClearsDamage : Prop :=
  ∀ (tag : Byte) (body : Bytes) (s : State) (v : Nat),
    s.ready = true → body.length = 27 → s.select body = .ok v → (s.vehicle? v).isSome = true →
    s.damaged v = true → s.clean = true →
    at16 body 5 ≤ 0x7FF → at16 body 7 ≠ 0 → at8 body 13 < 4 → at8 body 14 < 2 → at8 body 22 ≤ 1 →
    (at16 body 5 ≠ 0x7FF → answersOnly (.amendVehicle tag body) s 0x02#8 tag { status := .damaged, body := [] }) ∧
    (at16 body 5 = 0x7FF →
      (at8 body 14 = 1 → 100 ≤ at16 body 15 ∧ at16 body 15 ≤ 9999 ∧ 10 ≤ at16 body 19 ∧ at16 body 19 ≤ 600) →
      (at8 body 25 ≠ 0 → (s.vehicle v).state ≠ .departing) →
      (∀ w, s.byFleet (at16 body 7) = some w → w = v) → (∀ w, s.byTag (at32 body 9) = some w → w = v) →
      (∀ n x cls drive, (s.vehicle v).assignment = some n → s.slot n = some x → bodyOf (at8 body 13) = some cls →
        driveOf (at8 body 14) = some drive → accepts x.bodies x.drives cls drive = true) →
      let r := s.vehicle v
      let battery := at8 body 14 = 1
      ∃ t cls drive, exec (.amendVehicle tag body) s = .next t ∧ s.answers t 0x02#8 .done tag [] ∧ t.damaged v = false ∧
        bodyOf (at8 body 13) = some cls ∧ driveOf (at8 body 14) = some drive ∧
        t.vehicle v = { r with
          fleet := at16 body 7
          tag := if at32 body 9 = 0 then none else some (at32 body 9)
          body := cls
          drive := drive
          capacity := if battery then at16 body 15 else 0
          soe := if battery then min (at16 body 17) (at16 body 15) else 0
          acceptance := if battery then at16 body 19 else 0
          washInterval := min (at8 body 21) 60
          lastWash := if at8 body 22 = 1 then some (at16 body 23) else none
          hold := if at8 body 25 = 0 then none else some (at8 body 25)
          passOver := min (at8 body 26) 15 } ∧
        (∀ w, w ≠ v → t.vehicle? w = s.vehicle? w) ∧
        (∀ n, t.byFleet n = if n = at16 body 7 then some v else if n = r.fleet then none else s.byFleet n) ∧
        (∀ k, k ≠ 0 → t.byTag k = if k = at32 body 9 then some v else if r.tag = some k then none else s.byTag k) ∧
        t.service = s.service ∧ t.yard = s.yard ∧ (at16 body 7 = r.fleet → t.roster = s.roster) ∧
        (∀ l pos p, r.state = .parked → r.loc = .lane l pos → s.pointAt l pos = some p → s.parkedAt p = some v →
          battery → (s.point p).session = none →
          ((s.mode = .running ∨ s.mode = .safe) → s.clock.isSet = true →
            ((s.point p).state = .connected ∨ (s.point p).state = .active) →
            ∃ x, t.session p = some x ∧ x.vehicle = v ∧ x.startSoe = (t.vehicle v).soe ∧ x.base = (s.point p).counter ∧
              x.delivered = 0 ∧ x.requirement = t.requirementOf v ∧ x.target = t.targetOf v ∧
              x.deadline = t.deadlineOf v ∧ x.opened = s.now) ∧
          ((s.point p).state = .offline ∨ (s.point p).state = .faulted →
            (t.point p).waiting = some (if 0 < t.needOf v then .unreachable else .complete))))

/-- R5: how a selector resolves, and the refusals that come before any other check of a request that carries one. R7,
R170, R189, R191, R192: READ VEHICLE on a record whose check changes nothing, byte by byte; an absent last wash day
has no stated value, log entry 9. The model's choices in it: log entries 65, 76. -/
def Obligations.SelectorsResolveAndRead : Prop :=
  (∀ (tag : Byte) (body : Bytes) (s : State), s.ready = true →
     (at8 body 0 = 0 → 320 ≤ at32 body 1 → s.select body = .error .outOfRange) ∧
     (at8 body 0 = 0 → at32 body 1 < 320 → s.vehicle? (at32 body 1) = none → s.select body = .error .notFound) ∧
     (at8 body 0 = 0 → at32 body 1 < 320 → (s.vehicle? (at32 body 1)).isSome = true →
       s.select body = .ok (at32 body 1)) ∧
     (at8 body 0 = 1 → s.byFleet (at32 body 1) = none → s.select body = .error .notFound) ∧
     (∀ v, at8 body 0 = 1 → s.byFleet (at32 body 1) = some v → s.select body = .ok v) ∧
     (at8 body 0 = 2 → at32 body 1 = 0 → s.select body = .error .malformed) ∧
     (at8 body 0 = 2 → at32 body 1 ≠ 0 → s.byTag (at32 body 1) = none → s.select body = .error .notFound) ∧
     (∀ v, at8 body 0 = 2 → s.byTag (at32 body 1) = some v → s.select body = .ok v) ∧
     (2 < at8 body 0 → s.select body = .error .malformed) ∧
     (∀ x, s.select body = .error x →
       (body.length = 27 → answersOnly (.amendVehicle tag body) s 0x02#8 tag { status := x, body := [] }) ∧
       (body.length = 5 → answersOnly (.retireVehicle tag body) s 0x03#8 tag { status := x, body := [] }) ∧
       (body.length = 5 → answersOnly (.readVehicle tag body) s 0x04#8 tag { status := x, body := [] }) ∧
       (body.length = 6 → answersOnly (.holdVehicle tag body) s 0x05#8 tag { status := x, body := [] }) ∧
       (body.length = 7 → answersOnly (.setEnergy tag body) s 0x06#8 tag { status := x, body := [] }))) ∧
  (∀ (tag : Byte) (body : Bytes) (s : State) (v : Nat),
     s.ready = true → body.length = 5 → s.select body = .ok v → s.passes v = true →
     let r := s.vehicle v
     (s.damaged v = false →
       let reads := fun bytes => answersOnly (.readVehicle tag body) s 0x04#8 tag { status := .done, body := bytes }
       reads (be16 v ++ be16 r.fleet ++ be32 (r.tag.getD 0) ++
         be8 (match r.body with | .standard => 0 | .midi => 1 | .decker => 2 | .artic => 3) ++
         be8 (match r.drive with | .diesel => 0 | .battery => 1) ++
         be16 r.capacity ++ be16 r.soe ++ be16 r.acceptance ++ be8 (if r.lastWash = none then 0 else 1) ++
         be8 (r.hold.getD 0) ++ be8 r.passOver ++ be8 (stateCode r.state) ++ locBytes r.loc ++
         be16 (r.assignment.getD 0) ++ be16 r.key ++ be8 0 ++ be8 r.washInterval ++
         (match r.lastWash with
           | some d => be16 d
           | none => [Config.unstatedByte 29, Config.unstatedByte 30]))) ∧
     ([.out, .atGate, .onPad, .toBay, .inBay, .toWash, .washing, .toBerth, .parked, .inOverflow, .stranded, .departing,
       .unknown].map stateCode = List.range 13) ∧
     (∀ a b, locBytes .absent = [0#8, 0#8, 0#8] ∧ locBytes (.gateQueue a b) = 1#8 :: be8 a ++ be8 b ∧
       locBytes (.pad a) = 2#8 :: be8 a ++ [0#8] ∧ locBytes (.bay a) = 3#8 :: be8 a ++ [0#8] ∧
       locBytes (.washQueue a b) = 4#8 :: be8 a ++ be8 b ∧ locBytes (.wash a) = 5#8 :: be8 a ++ [0#8] ∧
       locBytes (.lane a b) = 6#8 :: be8 a ++ be8 b ∧ locBytes (.overflow a) = 7#8 :: be8 a ++ [0#8] ∧
       locBytes .apron = [8#8, 0#8, 0#8]) ∧
     (s.damaged v = true →
       answersOnly (.readVehicle tag body) s 0x04#8 tag
         { status := .damaged
           body := be16 v ++ be16 r.fleet ++ be8 (stateCode r.state) ++ locBytes r.loc }))

/-- R8: HOLD VEHICLE on a vehicle that is not DEPARTING, or with reason 0, and the refusal at APRON. R9, R110: a hold set
on a DEPARTING vehicle still at its place withdraws its call. The model's choice in it: log entry 30. -/
def Obligations.HoldSetsAndWithdraws : Prop :=
  (∀ (tag : Byte) (body : Bytes) (s : State) (v : Nat),
     s.ready = true → body.length = 6 → s.select body = .ok v → (s.vehicle? v).isSome = true → s.clean = true →
     ((s.vehicle v).state = .departing → (s.vehicle v).loc = .apron →
       answersOnly (.holdVehicle tag body) s 0x05#8 tag { status := .wrongState, body := [] }) ∧
     ((s.vehicle v).state ≠ .departing ∨ (at8 body 5 = 0 ∧ (s.vehicle v).loc ≠ .apron) →
       ∃ t, exec (.holdVehicle tag body) s = .next t ∧ s.answers t 0x05#8 .done tag [] ∧
         t.vehicle v = { s.vehicle v with hold := if at8 body 5 = 0 then none else some (at8 body 5) } ∧
         (∀ w, w ≠ v → t.vehicle? w = s.vehicle? w) ∧ t.fleet.byFleet = s.fleet.byFleet ∧
         t.fleet.byTag = s.fleet.byTag ∧ t.service = s.service ∧ t.yard = s.yard ∧ t.energy = s.energy ∧
         t.roster = s.roster ∧ t.bus = s.bus ∧ t.notices = s.notices ∧ t.faults = s.faults)) ∧
  (∀ (tag : Byte) (body : Bytes) (s : State) (v n f : Nat) (x : Slot) (c : Call),
     s.ready = true → body.length = 6 → s.select body = .ok v → (s.vehicle? v).isSome = true → s.clean = true →
     at8 body 5 ≠ 0 → (s.vehicle v).state = .departing → (s.vehicle v).assignment = some n → s.slot n = some x →
     x.assigned = some (v, f) → x.call = some c →
     (∀ l p, c.place = .lane l p → (s.vehicle v).loc = .lane l p) →
     (∀ k, c.place = .spot k → (s.vehicle v).loc = .overflow k) →
     ∃ t, exec (.holdVehicle tag body) s = .next t ∧ s.answers t 0x05#8 .done tag [] ∧
       t.vehicle v = { s.vehicle v with
         hold := some (at8 body 5)
         state := (match c.place with | .lane _ _ => VehState.parked | .spot _ => VehState.inOverflow) } ∧
       t.slot n = some { x with state := .assigned, call := none } ∧
       (∀ m, m ≠ n → t.slot m = s.slot m) ∧ t.roster.staged = s.roster.staged ∧
       (∀ w, w ≠ v → t.vehicle? w = s.vehicle? w) ∧ t.service = s.service ∧ t.yard.spots = s.yard.spots ∧
       (∀ l p, c.place = .lane l p →
         (t.lane l).entries = (s.lane l).entries.map (fun e =>
           if e.vehicle = v ∧ e.pos = p then { e with mark := .settled } else e) ∧
         (∀ k, k ≠ l → t.lane k = s.lane k)) ∧
       (s.bus.outFull = false → s.bus.heldOver = [] →
         ({ dest := c.node, source := s.geo.serviceAddr, urgent := true,
            body := .cancelCall c.place n } : OutMsg) ∈ t.bus.urgent))

/-- R14: RETIRE VEHICLE. R2, R10: SET ENERGY. The model's choice in it: log entry 61. -/
def Obligations.RecordRetiredEnergySet : Prop :=
  (∀ (tag : Byte) (body : Bytes) (s : State) (v : Nat),
     s.ready = true → body.length = 5 → s.select body = .ok v → (s.vehicle? v).isSome = true → s.clean = true →
     ((s.vehicle v).state ≠ .out → (s.vehicle v).state ≠ .unknown →
       answersOnly (.retireVehicle tag body) s 0x03#8 tag { status := .wrongState, body := [] }) ∧
     ((s.vehicle v).state = .out ∨ (s.vehicle v).state = .unknown →
       ∃ t, exec (.retireVehicle tag body) s = .next t ∧ s.answers t 0x03#8 .done tag (be16 v) ∧
         t.vehicle? v = none ∧ t.damaged v = false ∧
         (∀ w, w ≠ v → t.vehicle? w = s.vehicle? w) ∧
         (∀ n, t.byFleet n = if n = (s.vehicle v).fleet then none else s.byFleet n) ∧
         (∀ k, t.byTag k = if (s.vehicle v).tag = some k then none else s.byTag k) ∧
         (∀ n x, (s.vehicle v).assignment = some n → s.slot n = some x →
           t.slot n = some { x with state := .opened, assigned := none, substituted := false }) ∧
         (∀ m, (s.vehicle v).assignment ≠ some m → t.slot m = s.slot m) ∧
         t.roster.staged = s.roster.staged ∧ t.roster.ready = s.roster.ready ∧ t.service = s.service ∧
         ((s.vehicle v).assignment = none → t.yard = s.yard ∧ t.energy = s.energy ∧ t.bus = s.bus ∧
           t.notices = s.notices))) ∧
  (∀ (tag : Byte) (body : Bytes) (s : State) (v : Nat),
     s.ready = true → body.length = 7 → s.select body = .ok v → (s.vehicle? v).isSome = true → s.clean = true →
     (s.damaged v = true → answersOnly (.setEnergy tag body) s 0x06#8 tag { status := .damaged, body := [] }) ∧
     (s.damaged v = false → (s.vehicle v).drive = .diesel ∨ (s.sessionPoint v).isSome = true →
       answersOnly (.setEnergy tag body) s 0x06#8 tag { status := .wrongState, body := [] }) ∧
     (s.damaged v = false → (s.vehicle v).drive = .battery → s.sessionPoint v = none →
       ∃ t, exec (.setEnergy tag body) s = .next t ∧
         s.answers t 0x06#8 .done tag (be16 (min (at16 body 5) (s.vehicle v).capacity)) ∧
         t.vehicle v = { s.vehicle v with soe := min (at16 body 5) (s.vehicle v).capacity } ∧
         (∀ w, w ≠ v → t.vehicle? w = s.vehicle? w) ∧ t.fleet.byFleet = s.fleet.byFleet ∧
         t.fleet.byTag = s.fleet.byTag ∧ t.service = s.service ∧ t.yard = s.yard ∧ t.roster = s.roster ∧
         t.bus = s.bus ∧ t.faults = s.faults ∧ t.energy.budget = s.energy.budget ∧
         (∀ p, t.point p = { s.point p with waiting := (t.point p).waiting }) ∧
         (∀ p, s.pointNums.find? (fun q => s.parkedAt q == some v) = some p →
           ((s.point p).state = .offline ∨ (s.point p).state = .faulted) → (s.point p).session = none →
           (t.point p).waiting = some (if 0 < t.needOf v then .unreachable else .complete))))

/-! ### The service line (chapters 2 and 3) -/

/-- R29, R41, R42, R43: BAY REPORT DONE in RUNNING for a vehicle whose wash is taken at lane `l`; the head of an IDLE lane
is directed in. R29, R42, R54, R58, R59: BAY REPORT DONE in RUNNING for a vehicle whose wash is skipped, for each of its
reasons: the vehicle is placed straight from the bay, in the lane or the overflow spot that placement chooses, or it is
STRANDED there; R68: the lane it joins is recounted. R29, R42, R54, R59: BAY REPORT DONE in a mode other than RUNNING
strands the occupant; in a bay that is not SERVING it is ignored. -/
def Obligations.BayDoneServed : Prop :=
  (∀ (s : State) (m : InMsg) (rest : List InMsg) (b v l : Nat),
     s.clean = true → s.bus.inbound = m :: rest → m.isBay 2 b → 1 ≤ b → b ≤ s.geo.numBays → s.mode = .running →
     (s.bay b).state = .serving → (s.bay b).occupant = some v → (s.vehicle? v).isSome = true →
     (∀ d, (s.vehicle v).lastWash = some d → d + (s.vehicle v).washInterval ≤ s.clock.day) →
     s.clock.minute + s.beh.washSkip ≤ (s.vehicle v).key →
     ((s.vehicle v).drive = .battery → 0 < s.needOf v →
       s.clock.minute + s.beh.washSkip + s.chargeMinutes v ≤ (s.vehicle v).key) →
     s.washTakes l = true →
     (∀ k, s.washTakes k = true → (s.wash l).queue.length < (s.wash k).queue.length ∨
       ((s.wash l).queue.length = (s.wash k).queue.length ∧ l ≤ k)) →
     (∀ e q, (s.wash l).queue = e :: q → (s.wash l).state = .idle → e.directed ≠ none) →
     ∃ t, exec .bayDone s = .next t ∧ t.core = (s.taking rest).core ∧
       t.vehicle v = { s.vehicle v with state := .toWash, loc := .washQueue l ((s.wash l).queue.length + 1) } ∧
       (∀ w, w ≠ v → t.vehicle? w = s.vehicle? w) ∧
       t.bay b = { s.bay b with state := .finished, onward := true } ∧ (∀ c, c ≠ b → t.bay c = s.bay c) ∧
       t.wash l = { s.wash l with queue := (s.wash l).queue ++ [{
         vehicle := v
         heavy := (match (s.vehicle v).lastWash with
           | none => true
           | some d => decide (d + 2 * (s.vehicle v).washInterval ≤ s.clock.day))
         directed := if (s.wash l).state = .idle ∧ (s.wash l).queue = [] then some s.moveDeadline else none }] } ∧
       (∀ k, k ≠ l → t.wash k = s.wash k) ∧ t.service.gate1 = s.service.gate1 ∧ t.service.gate2 = s.service.gate2 ∧
       t.service.pad = s.service.pad ∧ t.yard = s.yard ∧ t.roster = s.roster) ∧
  (∀ (s : State) (m : InMsg) (rest : List InMsg) (b v : Nat),
     s.clean = true → s.bus.inbound = m :: rest → m.isBay 2 b → 1 ≤ b → b ≤ s.geo.numBays → s.mode = .running →
     (s.bay b).state = .serving → (s.bay b).occupant = some v → (s.vehicle? v).isSome = true →
     (s.vehicle v).state = .inBay →
     ((∃ d, (s.vehicle v).lastWash = some d ∧ s.clock.day < d + (s.vehicle v).washInterval) ∨
       (s.vehicle v).key < s.clock.minute + s.beh.washSkip ∨ (∀ l, s.washTakes l = false) ∨
       ((s.vehicle v).drive = .battery ∧ 0 < s.needOf v ∧
         (s.vehicle v).key < s.clock.minute + s.beh.washSkip + s.chargeMinutes v)) →
     let told := fun (t : State) (kind : DestKind) (n : Nat) => s.bus.outFull = false → s.bus.heldOver = [] →
       ({ dest := (s.geo.bay b).node, source := s.geo.serviceAddr, urgent := false,
          body := .direct (s.fleetOf v) kind n } : OutMsg) ∈ t.bus.normal
     let pos := fun (l : Nat) => targetPos (s.geo.lane l) (s.lane l).entries
     ∃ t, exec .bayDone s = .next t ∧ t.core = (s.taking rest).core ∧
       (∀ w, w ≠ v → t.vehicle? w = s.vehicle? w) ∧ (∀ c, c ≠ b → t.bay c = s.bay c) ∧
       t.service.washes = s.service.washes ∧ t.service.pad = s.service.pad ∧ t.service.gate1 = s.service.gate1 ∧
       t.service.gate2 = s.service.gate2 ∧ t.energy = s.energy ∧ t.roster = s.roster ∧
       (s.chooseBerth v = .nowhere →
         t.vehicle v = { s.vehicle v with state := .stranded, loc := .bay b } ∧
         t.bay b = { s.bay b with state := .finished } ∧
         t.yard.stranded = s.yard.stranded.filter (· != v) ++ [v] ∧ t.yard.lanes = s.yard.lanes ∧
         t.yard.spots = s.yard.spots ∧ t.bus = (s.taking rest).bus ∧ t.faults = (s.report .l4 v).faults ∧
         t.notices.pending = (s.report .l4 v).notices.pending ||| (1#16 <<< 5)) ∧
       (∀ n, s.chooseBerth v = .spot n →
         t.vehicle v = { s.vehicle v with state := .inOverflow, loc := .overflow n } ∧
         t.bay b = { s.bay b with state := .finished, onward := true } ∧ t.spot n = some (.held v) ∧
         (∀ k, k ≠ n → t.spot k = s.spot k) ∧ t.yard.lanes = s.yard.lanes ∧ t.yard.stranded = s.yard.stranded ∧
         told t .overflow n) ∧
       (∀ l block, s.chooseBerth v = .lane l block →
         t.vehicle v = { s.vehicle v with state := .toBerth, loc := .lane l (pos l) } ∧
         t.bay b = { s.bay b with state := .finished, onward := true } ∧
         t.lane l = { s.lane l with
           entries := insertEntry { vehicle := v, pos := pos l, mark := .arriving (s.now + s.beh.moveTimeout) }
             (s.lane l).entries
           inversions := (t.lane l).inversions } ∧ s.recounted t l ∧
         (∀ k, k ≠ l → t.lane k = s.lane k) ∧ t.yard.spots = s.yard.spots ∧ t.yard.stranded = s.yard.stranded ∧
         (block = true → t.notices.pending &&& (1#16 <<< 2) ≠ 0#16) ∧ told t .lane l)) ∧
  (∀ (s : State) (m : InMsg) (rest : List InMsg) (b : Nat),
     s.clean = true → s.bus.inbound = m :: rest → m.isBay 2 b → 1 ≤ b → b ≤ s.geo.numBays →
     ((s.bay b).state ≠ .serving → exec .bayDone s = .next (s.taking rest)) ∧
     (∀ v, s.mode ≠ .running → (s.bay b).state = .serving → (s.bay b).occupant = some v →
       (s.vehicle? v).isSome = true → (s.vehicle v).state = .inBay →
       ∃ t, exec .bayDone s = .next t ∧ t.core = (s.taking rest).core ∧
         t.vehicle v = { s.vehicle v with state := .stranded, loc := .bay b } ∧
         (∀ w, w ≠ v → t.vehicle? w = s.vehicle? w) ∧
         t.bay b = { s.bay b with state := .finished } ∧ (∀ c, c ≠ b → t.bay c = s.bay c) ∧
         t.yard.stranded = s.yard.stranded.filter (· != v) ++ [v] ∧ t.yard.lanes = s.yard.lanes ∧
         t.yard.spots = s.yard.spots ∧ t.service.washes = s.service.washes ∧ t.energy = s.energy ∧
         t.roster = s.roster ∧ t.bus = (s.taking rest).bus ∧ t.faults = (s.report .l4 v).faults ∧
         t.notices.pending = (s.report .l4 v).notices.pending ||| (1#16 <<< 5)))

/-- R26, R30: BAY REPORT CLEAR, where the bay it frees is not given to a turn: closing, outside RUNNING, or with no
vehicle on the pad. The model's choice in it: log entry 40. -/
def Obligations.BayClearFreesBay : Prop :=
  ∀ (s : State) (m : InMsg) (rest : List InMsg) (b : Nat),
    s.clean = true → s.bus.inbound = m :: rest → m.isBay 3 b → 1 ≤ b → b ≤ s.geo.numBays →
    ((s.bay b).state = .free ∨ (s.bay b).state = .awaiting ∨ (s.bay b).state = .closed →
      exec .bayClear s = .next (s.taking rest)) ∧
    ((s.bay b).closing = true ∨ s.mode ≠ .running ∨ s.service.pad = .empty →
      let freed : Bay :=
        { state := if (s.bay b).closing then .closed else .free
          closing := false, occupant := none, onward := false, deadline := none }
      ((s.bay b).state = .finished → (s.bay b).occupant = none ∨ (s.bay b).onward = true →
        exec .bayClear s = .next ((s.taking rest).setBay b freed)) ∧
      (∀ v, (s.bay b).state = .finished → (s.bay b).occupant = some v → (s.bay b).onward = false →
        (s.vehicle? v).isSome = true → (s.vehicle v).state = .stranded →
        ∃ t, exec .bayClear s = .next t ∧ t.core = (s.taking rest).core ∧ t.bay b = freed ∧
          (∀ c, c ≠ b → t.bay c = s.bay c) ∧
          t.vehicle v = { s.vehicle v with state := .unknown, loc := .absent } ∧
          (∀ w, w ≠ v → t.vehicle? w = s.vehicle? w) ∧ t.yard.stranded = s.yard.stranded.filter (· != v) ∧
          t.yard.lanes = s.yard.lanes ∧ t.yard.spots = s.yard.spots ∧ t.faults = (s.report .l4 v).faults ∧
          t.energy = s.energy ∧ t.roster = s.roster) ∧
      (∀ v, (s.bay b).state = .serving → (s.bay b).occupant = some v → (s.vehicle? v).isSome = true →
        ∃ t, exec .bayClear s = .next t ∧ t.core = (s.taking rest).core ∧ t.bay b = freed ∧
          (∀ c, c ≠ b → t.bay c = s.bay c) ∧
          t.vehicle v = { s.vehicle v with state := .unknown, loc := .absent } ∧
          (∀ w, w ≠ v → t.vehicle? w = s.vehicle? w) ∧ t.yard = s.yard ∧ t.faults = s.faults ∧
          t.energy = s.energy ∧ t.roster = s.roster))

/-- R35: the need, the estimated charge minutes and the turn key of a vehicle. R34, R36: a bay freed by CLEAR in RUNNING
is taken by the winner of the turn; both gate queues are empty. R24, R36, R37: the pad spot that the winner of a turn
frees admits the head of the gate queue with the earlier arrival, gate 1 on equal times, to the lowest free spot; the
queue behind it moves up. No FREE bay serves the vehicle admitted. -/
def Obligations.FreedBayTurnsAndAdmits : Prop :=
  (∀ (s : State) (v requirement : Nat), 0 < s.beh.refPower →
     ((s.vehicle v).assignment = none ∧ requirement = s.beh.defaultReq) ∨
       (∃ n x, (s.vehicle v).assignment = some n ∧ s.slot n = some x ∧ requirement = x.requirement) →
     s.needOf v = min (s.vehicle v).capacity (requirement + s.beh.reserve) - (s.vehicle v).soe ∧
     ((s.vehicle v).drive = .diesel → s.chargeMinutes v = 0 ∧ s.turnKey v = (s.vehicle v).key) ∧
     ((s.vehicle v).drive = .battery →
       (∀ k, s.chargeMinutes v ≤ k ↔ 6 * s.needOf v ≤ k * s.beh.refPower) ∧
       ((s.vehicle v).key ≤ s.chargeMinutes v → s.turnKey v = 0) ∧
       (s.chargeMinutes v ≤ (s.vehicle v).key → s.turnKey v + s.chargeMinutes v = (s.vehicle v).key))) ∧
  (∀ (s : State) (m : InMsg) (rest : List InMsg) (b p : Nat) (w : Waiting),
     s.clean = true → s.bus.inbound = m :: rest → m.isBay 3 b → 1 ≤ b → b ≤ s.geo.numBays → s.mode = .running →
     (s.bay b).state = .finished → (s.bay b).onward = true → (s.bay b).closing = false →
     s.service.gate1 = [] → s.service.gate2 = [] → s.service.pad.wf = true →
     (∀ q x, s.pad q = some x → (s.vehicle? x.vehicle).isSome = true ∧ (s.vehicle x.vehicle).loc = .pad q) →
     let competes := fun (x : Waiting) => (s.geo.bay b).kind = .fuel ∨ (s.vehicle x.vehicle).drive = .battery
     let late := fun (x : Waiting) => s.beh.passLimit ≤ (s.vehicle x.vehicle).passOver
     s.pad p = some w → competes w →
     ((∃ q x, s.pad q = some x ∧ competes x ∧ late x) →
       late w ∧ ∀ q x, s.pad q = some x → competes x → late x →
         w.arrival < x.arrival ∨ (w.arrival = x.arrival ∧ w.vehicle ≤ x.vehicle)) →
     ((∀ q x, s.pad q = some x → competes x → ¬ late x) → ∀ q x, s.pad q = some x → competes x →
       s.turnKey w.vehicle < s.turnKey x.vehicle ∨ (s.turnKey w.vehicle = s.turnKey x.vehicle ∧
         (w.arrival < x.arrival ∨ (w.arrival = x.arrival ∧ w.vehicle ≤ x.vehicle)))) →
     ∃ t, exec .bayClear s = .next t ∧ t.core = (s.taking rest).core ∧
       t.bay b = { state := .awaiting, closing := false, occupant := some w.vehicle, onward := false,
                   deadline := some s.moveDeadline } ∧
       (∀ c, c ≠ b → t.bay c = s.bay c) ∧
       t.vehicle w.vehicle = { s.vehicle w.vehicle with state := .toBay, loc := .bay b, passOver := 0 } ∧
       (∀ q x, s.pad q = some x → x.vehicle ≠ w.vehicle → competes x →
         t.vehicle x.vehicle = { s.vehicle x.vehicle with passOver := min 15 ((s.vehicle x.vehicle).passOver + 1) }) ∧
       (∀ v, (∀ q x, s.pad q = some x → competes x → x.vehicle ≠ v) → t.vehicle? v = s.vehicle? v) ∧
       t.pad p = none ∧ (∀ q, q ≠ p → t.pad q = s.pad q) ∧ t.service.washes = s.service.washes ∧
       t.yard = s.yard ∧ t.energy = s.energy ∧ t.roster = s.roster ∧
       (s.bus.outFull = false → s.bus.heldOver = [] →
         ({ dest := s.geo.display, source := s.geo.serviceAddr, urgent := false,
            body := .direct (s.fleetOf w.vehicle) .bay b } : OutMsg) ∈ t.bus.normal)) ∧
  (∀ (s : State) (m : InMsg) (rest : List InMsg) (b p g f : Nat) (w h : Waiting) (q : List Waiting),
     s.clean = true → s.bus.inbound = m :: rest → m.isBay 3 b → 1 ≤ b → b ≤ s.geo.numBays → s.mode = .running →
     (s.bay b).state = .finished → (s.bay b).onward = true → (s.bay b).closing = false → s.service.pad.wf = true →
     (∀ k x, s.pad k = some x → (s.vehicle? x.vehicle).isSome = true ∧ (s.vehicle x.vehicle).loc = .pad k) →
     (∀ (g' i : Nat) x, g' = 1 ∨ g' = 2 → (s.gateQueue g')[i]? = some x →
       (s.vehicle? x.vehicle).isSome = true ∧ (s.vehicle x.vehicle).loc = .gateQueue g' (i + 1)) →
     let serves := fun (c v : Nat) => (s.geo.bay c).kind = .fuel ∨ (s.vehicle v).drive = .battery
     s.pad p = some w → serves b w.vehicle → (∀ k x, s.pad k = some x → serves b x.vehicle → k = p) →
     g = 1 ∨ g = 2 → s.gateQueue g = h :: q →
     (∀ x, (s.gateQueue (3 - g)).head? = some x → h.arrival < x.arrival ∨ (h.arrival = x.arrival ∧ g = 1)) →
     1 ≤ f → f ≤ s.geo.padCapacity → s.pad f = none ∨ f = p → (∀ k, 1 ≤ k → k < f → s.pad k ≠ none ∧ k ≠ p) →
     (∀ c, 1 ≤ c → c ≤ s.geo.numBays → c ≠ b → (s.bay c).state = .free → ¬ serves c h.vehicle) →
     ∃ t, exec .bayClear s = .next t ∧ t.core = (s.taking rest).core ∧
       t.bay b = { state := .awaiting, closing := false, occupant := some w.vehicle, onward := false,
                   deadline := some s.moveDeadline } ∧
       (∀ c, c ≠ b → t.bay c = s.bay c) ∧
       t.vehicle w.vehicle = { s.vehicle w.vehicle with state := .toBay, loc := .bay b, passOver := 0 } ∧
       t.vehicle h.vehicle = { s.vehicle h.vehicle with state := .onPad, loc := .pad f } ∧ t.pad f = some h ∧
       (p ≠ f → t.pad p = none) ∧ (∀ k, k ≠ p → k ≠ f → t.pad k = s.pad k) ∧ t.gateQueue g = q ∧
       t.gateQueue (3 - g) = s.gateQueue (3 - g) ∧
       (∀ (i : Nat) x, q[i]? = some x →
         t.vehicle x.vehicle = { s.vehicle x.vehicle with state := .atGate, loc := .gateQueue g (i + 1) }) ∧
       (∀ v, v ≠ w.vehicle → v ≠ h.vehicle → (∀ x ∈ q, x.vehicle ≠ v) → t.vehicle? v = s.vehicle? v) ∧
       t.service.washes = s.service.washes ∧ t.yard = s.yard ∧ t.energy = s.energy ∧ t.roster = s.roster ∧
       (s.bus.normal = [] → s.bus.urgent = [] → s.bus.heldOver = [] →
         ({ dest := (s.geo.gate g).node, source := s.geo.serviceAddr, urgent := false,
            body := .direct (s.fleetOf h.vehicle) .pad f } : OutMsg) ∈ t.bus.normal))

/-- R27, R28: BAY REPORT ARRIVED: the occupant of an AWAITING bay is IN-BAY; a repeat changes nothing; any other bus is
S2. R31: BAY REPORT FAULT in a bay that is not SERVING, and RESTORED; a bay that becomes FREE is not given to a turn
outside RUNNING. R28, R31, R54, R58, R59, R68: BAY REPORT FAULT in a SERVING bay, and ARRIVED of the occupant of a bay
that FAULTED while it was on its way: the occupant is placed in the lane or the overflow spot that placement chooses, or
it is STRANDED in the bay. The model's choice in it: log entry 40. -/
def Obligations.BayArrivedFaultRestored : Prop :=
  (∀ (s : State) (m : InMsg) (rest : List InMsg) (b : Nat),
     s.clean = true → s.bus.inbound = m :: rest → m.isBay 1 b → 1 ≤ b → b ≤ s.geo.numBays →
     (∀ v, s.byTag (at32 m.payload 2) = some v → (s.bay b).occupant = some v → (s.bay b).state = .awaiting →
       (s.vehicle? v).isSome = true →
       ∃ t, exec .bayArrived s = .next t ∧ t.core = (s.taking rest).core ∧
         t.vehicle v = { s.vehicle v with state := .inBay, loc := .bay b } ∧ (∀ w, w ≠ v → t.vehicle? w = s.vehicle? w) ∧
         t.bay b = { s.bay b with state := .serving, deadline := none } ∧ (∀ c, c ≠ b → t.bay c = s.bay c) ∧
         t.service.gate1 = s.service.gate1 ∧ t.service.gate2 = s.service.gate2 ∧ t.service.pad = s.service.pad ∧
         t.service.washes = s.service.washes ∧ t.yard = s.yard ∧ t.energy = s.energy ∧ t.roster = s.roster ∧
         t.notices = s.notices ∧ t.faults = s.faults) ∧
     (∀ v, s.byTag (at32 m.payload 2) = some v → (s.bay b).occupant = some v →
       (s.bay b).state = .serving ∨ (s.bay b).state = .finished → exec .bayArrived s = .next (s.taking rest)) ∧
     ((s.bay b).occupant = none ∨ s.byTag (at32 m.payload 2) ≠ (s.bay b).occupant →
       exec .bayArrived s = .next ((s.taking rest).report .s2 b))) ∧
  (∀ (s : State) (m : InMsg) (rest : List InMsg) (b : Nat),
     s.clean = true → s.bus.inbound = m :: rest → 1 ≤ b → b ≤ s.geo.numBays →
     (m.isBay 4 b →
       ((s.bay b).state = .free ∨ (s.bay b).state = .awaiting ∨ (s.bay b).state = .finished →
         exec .bayFault s = .next (((s.taking rest).setBay b { s.bay b with state := .faulted }).report .s1 b)) ∧
       ((s.bay b).state = .closed →
         exec .bayFault s = .next ((s.taking rest).setBay b { s.bay b with state := .faulted, closing := true })) ∧
       ((s.bay b).state = .faulted → exec .bayFault s = .next (s.taking rest))) ∧
     (m.isBay 5 b →
       ((s.bay b).state ≠ .faulted → exec .bayRestored s = .next (s.taking rest)) ∧
       (∀ v, (s.bay b).state = .faulted → (s.bay b).occupant = some v → (s.bay b).onward = false →
         (s.vehicle v).state = .toBay →
         exec .bayRestored s = .next ((s.taking rest).setBay b { s.bay b with state := .awaiting })) ∧
       (∀ v, (s.bay b).state = .faulted → (s.bay b).occupant = some v →
         (s.bay b).onward = true ∨ (s.vehicle v).state ≠ .toBay →
         exec .bayRestored s = .next ((s.taking rest).setBay b { s.bay b with state := .finished })) ∧
       ((s.bay b).state = .faulted → (s.bay b).occupant = none → (s.bay b).closing = true ∨ s.mode ≠ .running →
         exec .bayRestored s = .next ((s.taking rest).setBay b
           { s.bay b with state := if (s.bay b).closing then .closed else .free, closing := false })))) ∧
  (∀ (s : State) (m : InMsg) (rest : List InMsg) (b v : Nat),
     s.clean = true → s.bus.inbound = m :: rest → 1 ≤ b → b ≤ s.geo.numBays → (s.bay b).occupant = some v →
     (s.vehicle? v).isSome = true →
     let pos := fun (l : Nat) => targetPos (s.geo.lane l) (s.lane l).entries
     let told := fun (t : State) (kind : DestKind) (n : Nat) => s.bus.outFull = false → s.bus.heldOver = [] →
       ({ dest := (s.geo.bay b).node, source := s.geo.serviceAddr, urgent := false,
          body := .direct (s.fleetOf v) kind n } : OutMsg) ∈ t.bus.normal
     let handed := fun (t u : State) (bay : Bay) => t.core = (s.taking rest).core ∧
       (∀ w, w ≠ v → t.vehicle? w = s.vehicle? w) ∧ (∀ c, c ≠ b → t.bay c = s.bay c) ∧
       t.service = { s.service with bays := t.service.bays } ∧ t.energy = s.energy ∧ t.roster = s.roster ∧
       (s.mode ≠ .running ∨ s.chooseBerth v = .nowhere →
         t.vehicle v = { s.vehicle v with state := .stranded, loc := .bay b } ∧ t.bay b = bay ∧
         t.yard = { s.yard with stranded := s.yard.stranded.filter (· != v) ++ [v] } ∧ t.bus = (s.taking rest).bus ∧
         t.faults = (u.report .l4 v).faults ∧
         t.notices.pending = (u.report .l4 v).notices.pending ||| (1#16 <<< 5)) ∧
       (∀ n, s.mode = .running → s.chooseBerth v = .spot n →
         t.vehicle v = { s.vehicle v with state := .inOverflow, loc := .overflow n } ∧
         t.bay b = { bay with onward := true } ∧ t.spot n = some (.held v) ∧ (∀ k, k ≠ n → t.spot k = s.spot k) ∧
         t.yard.lanes = s.yard.lanes ∧ t.yard.stranded = s.yard.stranded ∧ told t .overflow n) ∧
       (∀ l block, s.mode = .running → s.chooseBerth v = .lane l block →
         t.vehicle v = { s.vehicle v with state := .toBerth, loc := .lane l (pos l) } ∧
         t.bay b = { bay with onward := true } ∧
         (t.lane l).entries = insertEntry
           { vehicle := v, pos := pos l, mark := .arriving (s.now + s.beh.moveTimeout) } (s.lane l).entries ∧
         t.lane l = { s.lane l with entries := (t.lane l).entries, inversions := (t.lane l).inversions } ∧
         s.recounted t l ∧ (∀ k, k ≠ l → t.lane k = s.lane k) ∧ t.yard.spots = s.yard.spots ∧
         t.yard.stranded = s.yard.stranded ∧ (block = true → t.notices.pending &&& (1#16 <<< 2) ≠ 0#16) ∧ told t .lane l)
     (m.isBay 4 b → (s.bay b).state = .serving → (s.vehicle v).state = .inBay →
       ∃ t, exec .bayFault s = .next t ∧ handed t (s.report .s1 b) { s.bay b with state := .faulted } ∧
         t.faults.summary &&& (1#32 <<< 2) ≠ 0#32) ∧
     (m.isBay 1 b → (s.bay b).state = .faulted → (s.bay b).onward = false → (s.vehicle v).state = .toBay →
       s.byTag (at32 m.payload 2) = some v →
       ∃ t, exec .bayArrived s = .next t ∧ handed t s { s.bay b with deadline := none }))

/-- R45, R54, R58, R59: WASH REPORT DONE for a WASHING occupant: its last wash day is today; it is placed in the lane or
the overflow spot that placement chooses and the wash lane is freed (R68: the lane it joins is recounted), or it is
STRANDED and the wash lane goes on holding it. The model's choice in it: log entry 40. -/
def Obligations.WashDoneCreditsWash : Prop :=
  ∀ (s : State) (m : InMsg) (rest : List InMsg) (l v : Nat),
    s.clean = true → s.bus.inbound = m :: rest → m.isWash 2 l → 1 ≤ l → l ≤ s.geo.numWashes →
    ((s.wash l).state ≠ .washing → exec .washDone s = .next (s.taking rest)) ∧
    ((s.wash l).state = .washing → (s.wash l).occupant = some v → (s.vehicle? v).isSome = true →
      (s.vehicle v).state = .washing →
      (s.mode ≠ .running ∨ s.chooseBerth v = .nowhere →
        ∃ t, exec .washDone s = .next t ∧ t.core = (s.taking rest).core ∧
          t.vehicle v = { s.vehicle v with state := .stranded, loc := .wash l, lastWash := some s.clock.day } ∧
          (∀ w, w ≠ v → t.vehicle? w = s.vehicle? w) ∧ t.service = s.service ∧
          t.yard.stranded = s.yard.stranded.filter (· != v) ++ [v] ∧ t.yard.lanes = s.yard.lanes ∧
          t.yard.spots = s.yard.spots ∧ t.faults = (s.report .l4 v).faults ∧
          t.notices.pending = (s.report .l4 v).notices.pending ||| (1#16 <<< 5)) ∧
      (∀ n, s.mode = .running → s.chooseBerth v = .spot n → (s.wash l).queue = [] →
        ∃ t, exec .washDone s = .next t ∧ t.core = (s.taking rest).core ∧
          t.vehicle v = { s.vehicle v with state := .inOverflow, loc := .overflow n, lastWash := some s.clock.day } ∧
          (∀ w, w ≠ v → t.vehicle? w = s.vehicle? w) ∧ t.spot n = some (.held v) ∧
          (∀ k, k ≠ n → t.spot k = s.spot k) ∧ t.yard.lanes = s.yard.lanes ∧ t.yard.stranded = s.yard.stranded ∧
          t.wash l = { s.wash l with
            state := if (s.wash l).closing then .closed else .idle, closing := false, occupant := none } ∧
          (∀ k, k ≠ l → t.wash k = s.wash k) ∧ t.service.bays = s.service.bays) ∧
      (∀ k block, s.mode = .running → s.chooseBerth v = .lane k block → (s.wash l).queue = [] →
        let pos := targetPos (s.geo.lane k) (s.lane k).entries
        let entry : Entry := { vehicle := v, pos := pos, mark := .arriving (s.now + s.beh.moveTimeout) }
        ∃ t, exec .washDone s = .next t ∧ t.core = (s.taking rest).core ∧
          t.vehicle v = { s.vehicle v with state := .toBerth, loc := .lane k pos, lastWash := some s.clock.day } ∧
          (∀ w, w ≠ v → t.vehicle? w = s.vehicle? w) ∧
          t.lane k = { s.lane k with
            entries := insertEntry entry (s.lane k).entries
            inversions := (t.lane k).inversions } ∧ s.recounted t k ∧
          (∀ j, j ≠ k → t.lane j = s.lane j) ∧ t.yard.spots = s.yard.spots ∧ t.yard.stranded = s.yard.stranded ∧
          (block = true → t.notices.pending &&& (1#16 <<< 2) ≠ 0#16) ∧
          t.wash l = { s.wash l with
            state := if (s.wash l).closing then .closed else .idle, closing := false, occupant := none } ∧
          (∀ j, j ≠ l → t.wash j = s.wash j) ∧ t.service.bays = s.service.bays))

/-- R44, R47: WASH REPORT ENTERED, and CLEAR and RESTORED where no vehicle is placed by them and the lane's queue is
empty. R46: WASH REPORT FAULT: the lane is FAULTED with W1 and keeps its occupant, and no TO-WASH entry is left in its
queue; a CLOSED lane is FAULTED with closing pending; a FAULTED one is as it was. R43, R46: the queue of a wash lane that
fails. The other lane takes its entries in their order while it has room, each keeping its program, with no directed-in
mark but for the head of an empty IDLE lane; an entry it cannot take is placed unwashed (R68: the lane it joins is
recounted), or stays in the queue as a STRANDED entry. The model's choices in it: log entries 40, 66. -/
def Obligations.WashEnteredClearFaultRestored : Prop :=
  (∀ (s : State) (m : InMsg) (rest : List InMsg) (l : Nat),
     s.clean = true → s.bus.inbound = m :: rest → 1 ≤ l → l ≤ s.geo.numWashes →
     (m.isWash 1 l →
       (∀ e d q, (s.wash l).state = .idle → (s.wash l).queue = e :: q → e.directed = some d →
         (s.vehicle? e.vehicle).isSome = true → (∀ x ∈ q, x.vehicle ≠ e.vehicle) →
         ∃ t, exec .washEntered s = .next t ∧ t.core = (s.taking rest).core ∧
           t.wash l = { s.wash l with state := .washing, occupant := some e.vehicle, queue := q } ∧
           (∀ k, k ≠ l → t.wash k = s.wash k) ∧
           t.vehicle e.vehicle = { s.vehicle e.vehicle with state := .washing, loc := .wash l } ∧
           (∀ w, w ≠ e.vehicle → (∀ x ∈ q, x.vehicle ≠ w) → t.vehicle? w = s.vehicle? w) ∧
           t.service.bays = s.service.bays ∧ t.yard = s.yard ∧ t.energy = s.energy ∧ t.roster = s.roster ∧
           t.faults = s.faults ∧ t.notices = s.notices) ∧
       ((s.wash l).state ≠ .idle ∨ (s.wash l).queue = [] ∨ (∃ e q, (s.wash l).queue = e :: q ∧ e.directed = none) →
         exec .washEntered s = .next (s.taking rest))) ∧
     (m.isWash 3 l → (s.wash l).queue = [] →
       (∀ v, (s.wash l).state = .washing → (s.wash l).occupant = some v → (s.vehicle v).state = .washing →
         (s.vehicle? v).isSome = true →
         ∃ t, exec .washClear s = .next t ∧ t.core = (s.taking rest).core ∧
           t.wash l = { s.wash l with
             state := if (s.wash l).closing then .closed else .idle, closing := false, occupant := none } ∧
           (∀ k, k ≠ l → t.wash k = s.wash k) ∧
           t.vehicle v = { s.vehicle v with state := .unknown, loc := .absent } ∧
           (∀ w, w ≠ v → t.vehicle? w = s.vehicle? w) ∧ t.yard = s.yard ∧ t.faults = s.faults) ∧
       ((s.wash l).state = .idle ∨ (s.wash l).state = .closed →
         exec .washClear s = .next (s.taking rest))) ∧
     (m.isWash 5 l → (s.wash l).queue = [] →
       ((s.wash l).state ≠ .faulted → exec .washRestored s = .next (s.taking rest)) ∧
       (∀ v, (s.wash l).state = .faulted → (s.wash l).occupant = some v →
         exec .washRestored s = .next ((s.taking rest).setWash l { s.wash l with state := .washing })) ∧
       ((s.wash l).state = .faulted → (s.wash l).occupant = none →
         ∃ t, exec .washRestored s = .next t ∧ t.core = (s.taking rest).core ∧
           t.wash l = { s.wash l with state := if (s.wash l).closing then .closed else .idle, closing := false } ∧
           (∀ k, k ≠ l → t.wash k = s.wash k) ∧ t.fleet = s.fleet ∧ t.yard = s.yard))) ∧
  (∀ (s : State) (m : InMsg) (rest : List InMsg) (l : Nat),
     s.clean = true → s.bus.inbound = m :: rest → m.isWash 4 l → 1 ≤ l → l ≤ s.geo.numWashes →
     ((s.wash l).state = .idle ∨ (s.wash l).state = .washing →
       ∃ t, exec .washFault s = .next t ∧ t.core = (s.taking rest).core ∧ (t.wash l).state = .faulted ∧
         (t.wash l).occupant = (s.wash l).occupant ∧ (t.wash l).closing = (s.wash l).closing ∧
         (∀ x ∈ (t.wash l).queue, (t.vehicle x.vehicle).state ≠ .toWash) ∧
         t.faults.summary &&& (1#32 <<< 4) ≠ 0#32 ∧ t.service.bays = s.service.bays ∧ t.roster = s.roster) ∧
     ((s.wash l).state = .closed →
       exec .washFault s = .next ((s.taking rest).setWash l { s.wash l with state := .faulted, closing := true })) ∧
     ((s.wash l).state = .faulted → exec .washFault s = .next (s.taking rest))) ∧
  (∀ (s : State) (m : InMsg) (rest : List InMsg) (l o : Nat),
     s.clean = true → s.bus.inbound = m :: rest → m.isWash 4 l → 1 ≤ l → l ≤ s.geo.numWashes →
     l + o = 3 → (s.wash l).state = .idle ∨ (s.wash l).state = .washing →
     (∀ (i : Nat) x, (s.wash l).queue[i]? = some x → (s.vehicle? x.vehicle).isSome = true ∧
       (s.vehicle x.vehicle).state = .toWash ∧ (s.vehicle x.vehicle).loc = .washQueue l (i + 1)) →
     let q := (s.wash l).queue
     let r := (s.wash o).queue
     let takes := s.mode = .running ∧ s.washTakes o = true
     let told := fun (t : State) (node v : Nat) (kind : DestKind) (n : Nat) => s.bus.normal = [] → s.bus.urgent = [] → s.bus.heldOver = [] →
       ({ dest := node, source := s.geo.serviceAddr, urgent := false,
          body := .direct (s.fleetOf v) kind n } : OutMsg) ∈ t.bus.normal
     let failed := fun (t : State) (left : List WashEntry) => t.core = (s.taking rest).core ∧
       t.wash l = { s.wash l with state := .faulted, queue := left } ∧ t.service.bays = s.service.bays ∧
       t.roster = s.roster ∧ t.energy = s.energy ∧ (∀ w, (∀ x ∈ q, x.vehicle ≠ w) → t.vehicle? w = s.vehicle? w)
     let joined := fun (x : WashEntry) (i : Nat) => { x with
       directed := if i = 0 ∧ (s.wash o).state = .idle ∧ r = [] then some s.moveDeadline else none }
     (takes → q.length + r.length ≤ 3 → (s.wash o).state = .washing ∨ (∀ x, r.head? = some x → x.directed ≠ none) →
       ∃ t, exec .washFault s = .next t ∧ failed t [] ∧
         t.wash o = { s.wash o with queue := (t.wash o).queue } ∧ (t.wash o).queue.length = r.length + q.length ∧
         (∀ (i : Nat) x, r[i]? = some x → (t.wash o).queue[i]? = some x) ∧
         (∀ (i : Nat) x, q[i]? = some x → (t.wash o).queue[r.length + i]? = some (joined x i) ∧
           t.vehicle x.vehicle = { s.vehicle x.vehicle with loc := .washQueue o (r.length + i + 1) } ∧
           told t (s.geo.washNode l) x.vehicle .washQueue o) ∧
         t.yard = s.yard) ∧
     (¬ takes → s.mode ≠ .running ∨ (∀ x ∈ q, s.chooseBerth x.vehicle = .nowhere) →
       (∀ x ∈ q, x.vehicle ∉ s.yard.stranded) →
       ∃ t, exec .washFault s = .next t ∧ failed t (q.map (fun x => { x with directed := none })) ∧ t.wash o = s.wash o ∧
         (∀ x ∈ q, t.vehicle x.vehicle = { s.vehicle x.vehicle with state := .stranded, loc := .wash l }) ∧
         t.yard = { s.yard with stranded := s.yard.stranded ++ q.map (·.vehicle) } ∧
         (q ≠ [] → t.notices.pending &&& (1#16 <<< 5) ≠ 0#16)) ∧
     (∀ e, ¬ takes → s.mode = .running → q = [e] →
       (∀ n, s.chooseBerth e.vehicle = .spot n →
         ∃ t, exec .washFault s = .next t ∧ failed t [] ∧ t.wash o = s.wash o ∧
           t.vehicle e.vehicle = { s.vehicle e.vehicle with state := .inOverflow, loc := .overflow n } ∧
           t.spot n = some (.held e.vehicle) ∧ (∀ k, k ≠ n → t.spot k = s.spot k) ∧ t.yard.lanes = s.yard.lanes ∧
           t.yard.stranded = s.yard.stranded ∧ told t (s.geo.washNode l) e.vehicle .overflow n) ∧
       (∀ k block, s.chooseBerth e.vehicle = .lane k block →
         let pos := targetPos (s.geo.lane k) (s.lane k).entries
         ∃ t, exec .washFault s = .next t ∧ failed t [] ∧ t.wash o = s.wash o ∧
           t.vehicle e.vehicle = { s.vehicle e.vehicle with state := .toBerth, loc := .lane k pos } ∧
           (t.lane k).entries = insertEntry
             { vehicle := e.vehicle, pos := pos, mark := .arriving (s.now + s.beh.moveTimeout) } (s.lane k).entries ∧ s.recounted t k ∧
           (∀ j, j ≠ k → t.lane j = s.lane j) ∧ t.yard.spots = s.yard.spots ∧ t.yard.stranded = s.yard.stranded ∧
           told t (s.geo.washNode l) e.vehicle .lane k)) ∧
     (∀ e d n, takes → r.length = 2 → q = [e, d] → s.chooseBerth d.vehicle = .spot n →
       ∃ t, exec .washFault s = .next t ∧ failed t [] ∧
         (t.wash o).queue.drop 2 = [{ e with directed := none }] ∧
         t.vehicle e.vehicle = { s.vehicle e.vehicle with loc := .washQueue o 3 } ∧
         t.vehicle d.vehicle = { s.vehicle d.vehicle with state := .inOverflow, loc := .overflow n } ∧
         t.spot n = some (.held d.vehicle) ∧ (∀ k, k ≠ n → t.spot k = s.spot k) ∧ t.yard.lanes = s.yard.lanes))

/-- R33, R49: CLOSE STATION and OPEN STATION; a bay that becomes FREE is not given to a turn outside RUNNING. The model's
choice in it: log entry 40. -/
def Obligations.StationsCloseAndOpen : Prop :=
  ∀ (tag : Byte) (body : Bytes) (s : State) (n : Nat), s.ready = true → s.clean = true → body.length = 2 →
    at8 body 1 = n →
    (at8 body 0 = 0 → 1 ≤ n → n ≤ s.geo.numBays →
      (∃ t, exec (.closeStation tag body) s = .next t ∧ s.answers t 0x27#8 .done tag [] ∧
        t.bay n = (if (s.bay n).state = .free then { s.bay n with state := .closed, closing := false }
          else if (s.bay n).state = .closed then s.bay n else { s.bay n with closing := true }) ∧
        (∀ c, c ≠ n → t.bay c = s.bay c) ∧ t.service.washes = s.service.washes ∧ t.service.pad = s.service.pad ∧
        t.service.gate1 = s.service.gate1 ∧ t.service.gate2 = s.service.gate2 ∧ t.fleet = s.fleet ∧ t.yard = s.yard ∧
        t.energy = s.energy ∧ t.roster = s.roster ∧ t.bus = s.bus ∧ t.faults = s.faults ∧ t.notices = s.notices) ∧
      ((s.bay n).state ≠ .closed ∨ s.mode ≠ .running →
        ∃ t, exec (.openStation tag body) s = .next t ∧ s.answers t 0x28#8 .done tag [] ∧
        t.bay n = (if (s.bay n).state = .closed then { s.bay n with state := .free } else { s.bay n with closing := false }) ∧
        (∀ c, c ≠ n → t.bay c = s.bay c) ∧ t.service.washes = s.service.washes ∧ t.service.pad = s.service.pad ∧
        t.service.gate1 = s.service.gate1 ∧ t.service.gate2 = s.service.gate2 ∧ t.fleet = s.fleet ∧ t.yard = s.yard ∧
        t.energy = s.energy ∧ t.roster = s.roster ∧ t.bus = s.bus ∧ t.faults = s.faults ∧ t.notices = s.notices)) ∧
    (at8 body 0 = 1 → 1 ≤ n → n ≤ s.geo.numWashes →
      (∃ t, exec (.closeStation tag body) s = .next t ∧ s.answers t 0x27#8 .done tag [] ∧
        t.wash n = (if (s.wash n).state = .closed then s.wash n
          else if (s.wash n).state = .idle ∧ (s.wash n).queue = [] then { s.wash n with state := .closed, closing := false }
          else { s.wash n with closing := true }) ∧
        (∀ c, c ≠ n → t.wash c = s.wash c) ∧ t.service.bays = s.service.bays ∧ t.fleet = s.fleet ∧ t.yard = s.yard ∧
        t.energy = s.energy ∧ t.roster = s.roster ∧ t.bus = s.bus) ∧
      (∃ t, exec (.openStation tag body) s = .next t ∧ s.answers t 0x28#8 .done tag [] ∧
        t.wash n = (if (s.wash n).state = .closed then { s.wash n with state := .idle } else { s.wash n with closing := false }) ∧
        (∀ c, c ≠ n → t.wash c = s.wash c) ∧ t.service.bays = s.service.bays ∧ t.fleet = s.fleet ∧ t.yard = s.yard ∧
        t.energy = s.energy ∧ t.roster = s.roster ∧ t.bus = s.bus)) ∧
    (2 ≤ at8 body 0 →
      answersOnly (.closeStation tag body) s 0x27#8 tag { status := .malformed, body := [] } ∧
      answersOnly (.openStation tag body) s 0x28#8 tag { status := .malformed, body := [] } ∧
      answersOnly (.readStation tag body) s 0x26#8 tag { status := .malformed, body := [] }) ∧
    ((at8 body 0 = 0 ∧ (n = 0 ∨ s.geo.numBays < n)) ∨ (at8 body 0 = 1 ∧ (n = 0 ∨ s.geo.numWashes < n)) →
      answersOnly (.closeStation tag body) s 0x27#8 tag { status := .notFound, body := [] } ∧
      answersOnly (.openStation tag body) s 0x28#8 tag { status := .notFound, body := [] } ∧
      answersOnly (.readStation tag body) s 0x26#8 tag { status := .notFound, body := [] })

/-! ### Gate queries (chapters 2 and 6) -/

/-- R21, R22: the answers to GATE READ IN that admit nobody, cases 1 to 4 and 7. That case 1, a gate that is no entry,
answers the fleet number of the tag's vehicle, 0 without one, is the model's reading of R22, log entry 29. -/
def Obligations.GateInTurnsAway : Prop :=
  ∀ (s : State) (src gate : Byte) (tag : BitVec 32), s.hears src → s.clean = true →
    let entry := (gate = 1 ∨ gate = 2) ∧ ((s.geo.gate gate.toNat).dir = .inward ∨ (s.geo.gate gate.toNat).dir = .both)
    let reply := fun (t : State) (x : GateOutcome) (fleet : Nat) =>
      exec (.gateReadIn src gate tag) s =
        .next (t.answering src { outcome := x, kind := .none, number := 0, fleet := fleet })
    (¬ entry → reply (s.hearing src) .holdOutside (((s.byTag tag.toNat).map s.fleetOf).getD 0)) ∧
    (entry → s.byTag tag.toNat = none →
      reply (((s.hearing src).report .g1 gate.toNat).raise .unknownTag) .inspect 0) ∧
    (∀ v, entry → s.byTag tag.toNat = some v → (s.vehicle v).state ≠ .out →
      reply ((s.hearing src).report .g2 v) .duplicate (s.fleetOf v)) ∧
    (∀ v, entry → s.byTag tag.toNat = some v → (s.vehicle v).state = .out → s.mode ≠ .running →
      reply (s.hearing src) .holdOutside (s.fleetOf v)) ∧
    (∀ v, entry → s.byTag tag.toNat = some v → (s.vehicle v).state = .out → s.mode = .running →
      8 ≤ (s.gateQueue gate.toNat).length →
      reply ((s.hearing src).raise .arrivalHeld) .holdOutside (s.fleetOf v))

/-- R20, R21, R22, R23, R37: GATE READ IN in RUNNING of a vehicle that is OUT: it takes the lowest free pad spot `p` and
stays there, or goes on at once to the FREE bay `c` that R37 names, or joins the queue of its gate. -/
def Obligations.GateInAdmits : Prop :=
  ∀ (s : State) (src gate : Byte) (tag : BitVec 32) (v : Nat), s.hears src → s.clean = true →
    gate = 1 ∨ gate = 2 → (s.geo.gate gate.toNat).dir = .inward ∨ (s.geo.gate gate.toNat).dir = .both →
    s.byTag tag.toNat = some v → (s.vehicle? v).isSome = true → (s.vehicle v).state = .out → s.mode = .running →
    let empty := s.service.gate1 = [] ∧ s.service.gate2 = []
    let free := fun p => 1 ≤ p ∧ p ≤ s.geo.padCapacity ∧ s.pad p = none
    let serves := fun c => 1 ≤ c ∧ c ≤ s.geo.numBays ∧ (s.bay c).state = .free ∧
      ((s.geo.bay c).kind = .fuel ∨ (s.vehicle v).drive = .battery)
    let rank := fun c => if (s.vehicle v).drive = .battery ∧ (s.geo.bay c).kind = .fuel then 1 else 0
    let after := fun (t : State) (a : Answer) (r : Vehicle) =>
      exec (.gateReadIn src gate tag) s = .next t ∧ t.core = ((s.hearing src).answering src a).core ∧
      t.vehicle v = r ∧ (∀ w, w ≠ v → t.vehicle? w = s.vehicle? w) ∧ t.service.washes = s.service.washes ∧
      t.yard = s.yard ∧ t.energy.budget = s.energy.budget ∧ t.roster = s.roster
    (∀ p, empty → free p → (∀ q, free q → p ≤ q) → (∀ c, ¬ serves c) →
      ∃ t, after t { outcome := .pad, kind := .pad, number := p, fleet := s.fleetOf v }
          { s.vehicle v with state := .onPad, loc := .pad p } ∧
        t.pad p = some { vehicle := v, arrival := s.now } ∧ (∀ q, q ≠ p → t.pad q = s.pad q) ∧
        t.service.gate1 = [] ∧ t.service.gate2 = [] ∧ t.service.bays = s.service.bays ∧ t.energy = s.energy ∧
        t.faults = s.faults ∧ t.notices = s.notices) ∧
    (∀ p c, empty → free p → (∀ q, free q → p ≤ q) → serves c →
      (∀ d, serves d → rank c < rank d ∨ (rank c = rank d ∧ c ≤ d)) →
      ∃ t, after t { outcome := .pad, kind := .pad, number := p, fleet := s.fleetOf v }
          { s.vehicle v with state := .toBay, loc := .bay c } ∧
        (∀ q, t.pad q = s.pad q) ∧ t.service.gate1 = [] ∧ t.service.gate2 = [] ∧
        t.bay c = { s.bay c with
          state := .awaiting
          occupant := some v
          onward := false
          deadline := some (s.now + s.beh.moveTimeout) } ∧
        (∀ d, d ≠ c → t.bay d = s.bay d) ∧
        (s.bus.outFull = false → s.bus.heldOver = [] →
          ({ dest := s.geo.display, source := s.geo.serviceAddr, urgent := false,
             body := .direct (s.fleetOf v) .bay c } : OutMsg) ∈ t.bus.normal)) ∧
    ((∀ p, empty → ¬ free p) → (s.gateQueue gate.toNat).length < 8 →
      let n := (s.gateQueue gate.toNat).length + 1
      ∃ t, after t { outcome := .queue, kind := .gateQueue, number := n, fleet := s.fleetOf v }
          { s.vehicle v with state := .atGate, loc := .gateQueue gate.toNat n } ∧
        t.gateQueue gate.toNat = s.gateQueue gate.toNat ++ [{ vehicle := v, arrival := s.now }] ∧
        t.gateQueue (3 - gate.toNat) = s.gateQueue (3 - gate.toNat) ∧ t.service.pad = s.service.pad ∧
        t.service.bays = s.service.bays ∧ t.energy = s.energy ∧ t.faults = s.faults ∧ t.notices = s.notices)

/-- R60, R116, R117: GATE READ OUT of a DEPARTING vehicle; the stranded list is retried where a spot of its becomes free.
R116, R117, R119: GATE READ OUT in its cases 1, 2, 4 and 5, and case 6 for an UNKNOWN vehicle; in case 6 the slot it held
becomes GONE, uncalled. R60, R70, R119: GATE READ OUT of a vehicle PARKED in a lane: exit-ready, its entry is LEAVING with
reason EXIT; not exit-ready, its entry goes, the lane is UNVERIFIED and the stranded list is retried. R25, R48, R60, R70,
R119: GATE READ OUT, case 6, for a vehicle in the service line, on its way to a berth, in the overflow area or STRANDED:
it becomes OUT, its slot GONE, uncalled, and what held it is released; a spot or a berth that it gives up brings a retry.
R17, R68: with the assignment that ends every lane is recounted. The model's choice in it: log entry 40. -/
def Obligations.GateOutReleasesOrOtherwise : Prop :=
  (∀ (s : State) (src gate : Byte) (tag : BitVec 32) (v n f : Nat) (x : Slot), s.hears src → s.clean = true →
     1 ≤ gate.toNat → gate.toNat ≤ 4 → s.byTag tag.toNat = some v → (s.vehicle? v).isSome = true →
     (s.vehicle v).state = .departing → (s.vehicle v).assignment = some n → s.slot n = some x →
     x.assigned = some (v, f) →
     let frees := (upTo 1 s.geo.numSpots).any (fun k => (s.spot k).any (fun y => y.vehicle == v))
     ∃ t : State, exec (.gateReadOut src gate tag) s =
         .next ((if frees then t.retry else t).answering src (releasedAnswer n (s.fleetOf v))) ∧
       t.core = (s.hearing src).core ∧
       t.slot n = some { x with state := .gone, last := some (v, f), assigned := none, call := none } ∧
       (∀ m, m ≠ n → t.slot m = s.slot m) ∧ t.roster.staged = s.roster.staged ∧ t.roster.ready = s.roster.ready ∧
       t.vehicle v = { s.vehicle v with state := .out, loc := .absent, assignment := none, key := 1440 } ∧
       (∀ w, w ≠ v → t.vehicle? w = s.vehicle? w) ∧ t.service = s.service ∧ t.yard.stranded = s.yard.stranded ∧
       (∀ l, t.lane l = { s.lane l with inversions := (t.lane l).inversions }) ∧ s.recountedAll t ∧
       (∀ k, 1 ≤ k → k ≤ s.geo.numSpots →
         t.spot k = if (s.spot k).any (fun x => x.vehicle == v) then none else s.spot k)) ∧
  (∀ (s : State) (src gate : Byte) (tag : BitVec 32), s.hears src → s.clean = true →
     let reply := fun (t : State) (x : GateOutcome) (fleet : Nat) =>
       exec (.gateReadOut src gate tag) s =
         .next (t.answering src { outcome := x, kind := .none, number := 0, fleet := fleet })
     let exits := 1 ≤ gate.toNat ∧ gate.toNat ≤ 4
     (¬ exits → reply (s.hearing src) .inspect 0) ∧
     (exits → s.byTag tag.toNat = none →
       reply (((s.hearing src).report .g1 gate.toNat).raise .unknownTag) .inspect 0) ∧
     (∀ v, exits → s.byTag tag.toNat = some v → (s.vehicle v).state = .out →
       (∀ y ∈ s.roster.active, y.state = .gone → y.unconfirmed = true → y.last ≠ some (v, s.fleetOf v)) →
       reply (s.hearing src) .duplicate (s.fleetOf v)) ∧
     (∀ v x, exits → s.byTag tag.toNat = some v → (s.vehicle v).state = .out → x ∈ s.roster.active →
       x.state = .gone → x.unconfirmed = true → x.last = some (v, s.fleetOf v) →
       (∀ y ∈ s.roster.active, y.num = x.num → y = x) →
       (∀ y ∈ s.roster.active, y.state = .gone → y.unconfirmed = true → y.last = some (v, s.fleetOf v) → y = x) →
       ∃ t, exec (.gateReadOut src gate tag) s = .next t ∧
         t.core = ((s.hearing src).answering src (releasedAnswer x.num (s.fleetOf v))).core ∧
         t.slot x.num = some { x with unconfirmed := false } ∧ (∀ m, m ≠ x.num → t.slot m = s.slot m) ∧
         t.roster.staged = s.roster.staged ∧ t.fleet = s.fleet ∧ t.service = s.service ∧ t.yard = s.yard ∧
         t.energy = s.energy ∧ t.faults = s.faults ∧ t.notices = s.notices) ∧
     (∀ v, exits → s.byTag tag.toNat = some v → (s.vehicle? v).isSome = true → (s.vehicle v).state = .unknown →
       ∃ t, exec (.gateReadOut src gate tag) s = .next t ∧
         t.core = ((s.hearing src).answering src
           { outcome := .uncalled, kind := .none, number := 0, fleet := s.fleetOf v }).core ∧
         t.vehicle v = { s.vehicle v with state := .out, loc := .absent, assignment := none, key := 1440 } ∧
         (∀ w, w ≠ v → t.vehicle? w = s.vehicle? w) ∧
         (∀ n x, (s.vehicle v).assignment = some n → s.slot n = some x → x.assigned.isSome = true →
           t.slot n = some { x with
             state := .gone
             last := x.assigned
             assigned := none
             call := none
             uncalled := true }) ∧
         (∀ m, (s.vehicle v).assignment ≠ some m → t.slot m = s.slot m) ∧ t.roster.staged = s.roster.staged ∧
         t.service = s.service ∧ t.yard.spots = s.yard.spots ∧ t.yard.stranded = s.yard.stranded ∧
         (∀ l, t.lane l = { s.lane l with inversions := (t.lane l).inversions }) ∧ s.recountedAll t ∧
         t.faults.summary &&& (1#32 <<< 7) ≠ 0#32 ∧ t.notices.pending &&& (1#16 <<< 11) ≠ 0#16)) ∧
  (∀ (s : State) (src gate : Byte) (tag : BitVec 32) (v l p : Nat) (e : Entry), s.hears src → s.clean = true →
     1 ≤ gate.toNat → gate.toNat ≤ 4 → s.byTag tag.toNat = some v → (s.vehicle? v).isSome = true →
     (s.vehicle v).state = .parked → (s.vehicle v).loc = .lane l p → (s.lane l).entries.head? = some e →
     1 ≤ l → l ≤ s.geo.numLanes → (s.lane l).at? p = some { vehicle := v, pos := p, mark := .settled } →
     let ready := e.vehicle == v && e.pos == p
     ∃ t : State, exec (.gateReadOut src gate tag) s = .next ((if ready then t else t.retry).answering src
         { outcome := .uncalled, kind := .none, number := 0, fleet := s.fleetOf v }) ∧
       t.core = (s.hearing src).core ∧
       t.vehicle v = { s.vehicle v with state := .out, loc := .absent, assignment := none, key := 1440 } ∧
       (∀ w, w ≠ v → t.vehicle? w = s.vehicle? w) ∧
       (∀ n x, (s.vehicle v).assignment = some n → s.slot n = some x → x.assigned.isSome = true →
         t.slot n = some { x with state := .gone, last := x.assigned, assigned := none, call := none, uncalled := true }) ∧
       (∀ m, (s.vehicle v).assignment ≠ some m → t.slot m = s.slot m) ∧ t.roster.staged = s.roster.staged ∧
       (ready = true →
         (t.lane l).entries = (s.lane l).entries.map (fun x =>
           if x.vehicle = v ∧ x.pos = p then { x with mark := .leavingExit } else x) ∧
         (t.lane l).state = (s.lane l).state ∧ (t.lane l).closing = (s.lane l).closing) ∧
       (ready = false →
         (t.lane l).entries = (s.lane l).entries.filter (fun x => !(x.vehicle == v && x.pos == p)) ∧
         (t.lane l).state = .unverified ∧
         (t.lane l).closing = ((s.lane l).closing || (s.lane l).state == .closed)) ∧
       (∀ k, k ≠ l → t.lane k = { s.lane k with inversions := (t.lane k).inversions }) ∧ s.recountedAll t ∧
       t.service = s.service ∧ t.yard.spots = s.yard.spots ∧
       t.faults.summary &&& (1#32 <<< 7) ≠ 0#32 ∧ t.notices.pending &&& (1#16 <<< 11) ≠ 0#16) ∧
  (∀ (s : State) (src gate : Byte) (tag : BitVec 32) (v : Nat), s.hears src → s.clean = true →
     1 ≤ gate.toNat → gate.toNat ≤ 4 → s.byTag tag.toNat = some v → (s.vehicle? v).isSome = true →
     let st := (s.vehicle v).state
     let loc := (s.vehicle v).loc
     st ≠ .out → st ≠ .departing → st ≠ .parked → st ≠ .unknown →
     (st = .toBerth → (∃ l p, loc = .lane l p ∧ 1 ≤ l ∧ l ≤ s.geo.numLanes ∧
         ∃ e ∈ (s.lane l).entries, e.vehicle = v ∧ e.pos = p) ∨
       (∃ n, loc = .overflow n ∧ 1 ≤ n ∧ n ≤ s.geo.numSpots ∧ ∃ d, s.spot n = some (.reserved v d))) →
     (st = .inOverflow → ∃ n, loc = .overflow n ∧ 1 ≤ n ∧ n ≤ s.geo.numSpots ∧ s.spot n = some (.held v)) →
     let frees : Bool := st == .toBerth || st == .inOverflow
     let quiet := s.mode ≠ .running ∨ (s.service.gate1 = [] ∧ s.service.gate2 = [] ∧ s.service.pad = .empty)
     let without := fun (q : List WashEntry) => q.filter (fun x => x.vehicle != v)
     ∃ t : State, exec (.gateReadOut src gate tag) s = .next ((if frees then t.retry else t).answering src
         { outcome := .uncalled, kind := .none, number := 0, fleet := s.fleetOf v }) ∧
       t.core = (s.hearing src).core ∧
       t.vehicle v = { s.vehicle v with state := .out, loc := .absent, assignment := none, key := 1440 } ∧
       (∀ n x, (s.vehicle v).assignment = some n → s.slot n = some x → x.assigned.isSome = true →
         t.slot n = some { x with state := .gone, last := x.assigned, assigned := none, call := none, uncalled := true }) ∧
       (∀ m, (s.vehicle v).assignment ≠ some m → t.slot m = s.slot m) ∧ t.roster.staged = s.roster.staged ∧
       t.faults.summary &&& (1#32 <<< 7) ≠ 0#32 ∧ t.notices.pending &&& (1#16 <<< 11) ≠ 0#16 ∧
       (∀ g k, st = .atGate → loc = .gateQueue g k → g = 1 ∨ g = 2 →
         t.gateQueue g = (s.gateQueue g).filter (fun x => x.vehicle != v) ∧ t.gateQueue (3 - g) = s.gateQueue (3 - g) ∧
         (∀ (i : Nat) x, (t.gateQueue g)[i]? = some x → (∀ (j : Nat) y, (t.gateQueue g)[j]? = some y →
             y.vehicle = x.vehicle → j = i) → (s.vehicle? x.vehicle).isSome = true →
           (t.vehicle x.vehicle).state = .atGate ∧ (t.vehicle x.vehicle).loc = .gateQueue g (i + 1)) ∧
         t.service.pad = s.service.pad ∧ t.service.bays = s.service.bays ∧ t.service.washes = s.service.washes) ∧
       (∀ k, st = .onPad → loc = .pad k → s.mode ≠ .running ∨ (s.service.gate1 = [] ∧ s.service.gate2 = []) →
         t.pad k = none ∧ (∀ j, j ≠ k → t.pad j = s.pad j) ∧ t.service.bays = s.service.bays ∧
         t.service.washes = s.service.washes) ∧
       (∀ b, st = .toBay ∨ st = .inBay ∨ st = .stranded → loc = .bay b →
         (s.bay b).state ≠ .awaiting ∨ (s.bay b).closing = true ∨ quiet →
         (t.bay b).occupant = none ∧ (t.bay b).onward = false ∧ (t.bay b).deadline = none ∧
         ((s.bay b).state = .awaiting → (t.bay b).state = (if (s.bay b).closing then .closed else .free) ∧
           (t.bay b).closing = false) ∧
         ((s.bay b).state = .serving → (t.bay b).state = .finished ∧ (t.bay b).closing = (s.bay b).closing) ∧
         ((s.bay b).state ≠ .awaiting → (s.bay b).state ≠ .serving →
           (t.bay b).state = (s.bay b).state ∧ (t.bay b).closing = (s.bay b).closing) ∧
         (∀ c, c ≠ b → t.bay c = s.bay c) ∧ t.service.pad = s.service.pad ∧ t.service.washes = s.service.washes) ∧
       (∀ l k, st = .toWash ∧ loc = .washQueue l k ∨ st = .stranded ∧ loc = .wash l ∧ (s.wash l).occupant ≠ some v →
         (s.wash l).state ≠ .idle ∨ without (s.wash l).queue = [] →
         t.wash l = { s.wash l with
           queue := without (s.wash l).queue
           state := if (s.wash l).state = .idle ∧ (s.wash l).closing = true then .closed else (s.wash l).state
           closing := if (s.wash l).state = .idle then false else (s.wash l).closing } ∧
         (∀ j, j ≠ l → t.wash j = s.wash j) ∧ t.service.bays = s.service.bays) ∧
       (∀ l, st = .washing ∧ loc = .wash l ∨ st = .stranded ∧ loc = .wash l ∧ (s.wash l).occupant = some v →
         ((s.wash l).state = .washing → (s.wash l).queue = [] →
           t.wash l = { s.wash l with
             state := if (s.wash l).closing then .closed else .idle, closing := false, occupant := none }) ∧
         ((s.wash l).state = .faulted → t.wash l = { s.wash l with occupant := none }) ∧
         (∀ j, j ≠ l → t.wash j = s.wash j) ∧ t.service.bays = s.service.bays) ∧
       (∀ l p, st = .toBerth → loc = .lane l p →
         (t.lane l).state = .unverified ∧ (t.lane l).closing = ((s.lane l).closing || (s.lane l).state == .closed) ∧
         (∀ e ∈ (t.lane l).entries, ¬ (e.vehicle = v ∧ e.pos = p)) ∧
         (∀ e ∈ (s.lane l).entries, e.vehicle ≠ v → e ∈ (t.lane l).entries)) ∧
       (∀ l e d, st = .toBerth → e ∈ (s.lane l).entries → 1 ≤ l → l ≤ s.geo.numLanes → e.vehicle = v →
         e.mark = .leavingMove d false →
         (∀ k, ∀ y ∈ (s.lane k).entries, y.vehicle = v → y.mark = .leavingMove d false → k = l) →
         (∀ k, ∀ y ∈ (s.lane k).entries, y.vehicle = v → ∀ d', y.mark = .leavingMove d' false → d' = d) →
         (∀ x ∈ (t.lane l).entries, ¬ (x.vehicle = v ∧ x.mark = .leavingMove d false)) ∧ (t.lane l).state = .unverified) ∧
       (st = .toBerth ∨ st = .inOverflow →
         (∀ n, 1 ≤ n → n ≤ s.geo.numSpots →
           t.spot n = if (s.spot n).any (fun x => x.vehicle == v) then none else s.spot n) ∧ t.service = s.service) ∧
       (st = .stranded → t.yard.stranded = s.yard.stranded.filter (· != v)) ∧
       (st ≠ .stranded → t.yard.stranded = s.yard.stranded) ∧
       (st ≠ .toBerth → ∀ l, t.lane l = { s.lane l with inversions := (t.lane l).inversions }) ∧ s.recountedAll t ∧
       (st ≠ .toBerth → st ≠ .inOverflow → t.yard.spots = s.yard.spots))

/-! ### Lanes, moves and placement (chapter 4) -/

/-- R55, R56, R57: where placement sends a vehicle, step by step, in every state. -/
def Obligations.PlacementChoosesBerth : Prop :=
  ∀ (s : State) (v : Nat),
    let g := s.geo.lane
    let es := fun l => (s.lane l).entries
    let cand := fun l => 1 ≤ l ∧ l ≤ s.geo.numLanes ∧ (s.lane l).state = .opened ∧ (s.lane l).closing = false ∧
      ((s.vehicle v).body = .artic → (g l).cls = .long) ∧ (∀ e ∈ es l, e.mark.isArriving = false) ∧
      ((g l).kind = .flow → ∀ e, (es l).getLast? = some e → e.pos < (g l).depth) ∧
      ((g l).kind = .dead → (∀ e ∈ es l, e.mark.isLeaving = false) ∧ ∀ e, (es l).head? = some e → 1 < e.pos)
    let next := fun l => if (g l).kind = .flow then (es l).getLast? else (es l).head?
    let key := fun w => (s.vehicle w).key
    let ordered := fun l => cand l ∧ ∀ e, next l = some e →
      if (g l).kind = .flow then key e.vehicle ≤ key v else key v ≤ key e.vehicle
    let gap := fun l => match next l with
      | some e => max (key v) (key e.vehicle) - min (key v) (key e.vehicle)
      | none => 1441
    let target := fun l => match next l with
      | some e => if (g l).kind = .flow then e.pos + 1 else e.pos - 1
      | none => if (g l).kind = .flow then 1 else (g l).depth
    let charges := fun l => (s.vehicle v).drive = .battery ∧ 0 < s.needOf v ∧
      ∃ p, (g l).points.get? (target l) = some p ∧ (s.point p).state = .idle
    let least := fun (ok : Nat → Prop) l => ok l ∧ ∀ k, ok k → gap l < gap k ∨ (gap l = gap k ∧ l ≤ k)
    let free := fun n => 1 ≤ n ∧ n ≤ s.geo.numSpots ∧ s.spot n = none
    (∀ l, least (fun k => ordered k ∧ charges k) l → s.chooseBerth v = .lane l false) ∧
    ((∀ k, ordered k → ¬ charges k) → ∀ l, least ordered l → s.chooseBerth v = .lane l false) ∧
    ((∀ k, ¬ ordered k) →
      (∀ n, free n → (∀ m, free m → n ≤ m) → s.chooseBerth v = .spot n) ∧
      ((∀ n, ¬ free n) →
        (∀ l, least cand l → s.chooseBerth v = .lane l true) ∧
        ((∀ k, ¬ cand k) → s.chooseBerth v = .nowhere)))

/-- R50, R60, R71, R72, R73, R190: READ LANE, byte by byte, CLOSE LANE and OPEN LANE where no record check finds anything;
a CLOSED lane that becomes OPEN in RUNNING brings a retry of the stranded list. The model's choices in it: log entries 44,
49, and 61 for the fleet number and key of an entry whose vehicle has been retired. -/
def Obligations.LaneReadClosedOpened : Prop :=
  ∀ (tag : Byte) (body : Bytes) (s : State) (l : Nat), s.ready = true → body.length = 1 → at8 body 0 = l →
    (l = 0 ∨ s.geo.numLanes < l → s.passes (settingsRecord 1) = true →
      answersOnly (.readLane tag body) s 0x20#8 tag { status := .notFound, body := [] } ∧
      answersOnly (.closeLane tag body) s 0x21#8 tag { status := .notFound, body := [] } ∧
      answersOnly (.openLane tag body) s 0x22#8 tag { status := .notFound, body := [] }) ∧
    (1 ≤ l → l ≤ s.geo.numLanes → s.clean = true →
      let g := s.geo.lane l
      let r := s.lane l
      let bit := fun (b : Bool) => if b then [1#8] else [0#8]
      let reads := fun bytes => answersOnly (.readLane tag body) s 0x20#8 tag { status := .done, body := bytes }
      reads (be8 (match g.kind with | .flow => 0 | .dead => 1) ++ be8 g.depth ++
        be8 (match g.cls with | .standard => 0 | .long => 1) ++ be8 g.node ++ be8 g.index ++
        [1, 2, 3, 4, 5, 6, 7, 8].flatMap (fun p => be8 ((g.points.get? p).getD 0)) ++
        be8 (match r.state with | .opened => 0 | .closed => 1 | .unverified => 2) ++ bit r.closing ++
        bit (r.entries.any (fun e => e.mark.isArriving)) ++ bit (r.entries.any (fun e => e.mark.isLeaving)) ++
        be8 r.inversions ++ [r.image] ++ be8 r.entries.length ++
        r.entries.flatMap (fun e => be8 e.pos ++ be16 e.vehicle ++ be16 (s.fleetOf e.vehicle) ++
          be16 (s.vehicle e.vehicle).key ++
          (match e.mark with
            | .settled => [0#8, 0#8] ++ be32 0xFFFFFFFF
            | .arriving d => [1#8, 0#8] ++ be32 d
            | .leavingCall => [2#8, 1#8] ++ be32 0xFFFFFFFF
            | .leavingMove d _ => [2#8, 2#8] ++ be32 d
            | .leavingExit => [2#8, 3#8] ++ be32 0xFFFFFFFF))) ∧
      (∃ t, exec (.closeLane tag body) s = .next t ∧ s.answers t 0x21#8 .done tag [] ∧
        t.lane l = (match (s.lane l).state with
          | .opened => if ∃ e ∈ (s.lane l).entries, e.mark.isArriving = true then { s.lane l with closing := true }
              else { s.lane l with state := .closed, closing := false }
          | .unverified => { s.lane l with closing := true }
          | .closed => s.lane l) ∧
        (∀ k, k ≠ l → t.lane k = s.lane k) ∧ t.yard.spots = s.yard.spots ∧ t.yard.stranded = s.yard.stranded ∧
        t.fleet = s.fleet ∧ t.service = s.service ∧ t.energy = s.energy ∧ t.roster = s.roster ∧ t.bus = s.bus ∧
        t.faults = s.faults ∧ t.notices = s.notices) ∧
      (s.mode = .safe → answersOnly (.openLane tag body) s 0x22#8 tag { status := .safeMode, body := [] }) ∧
      (s.mode ≠ .safe → (s.lane l).state = .unverified →
        answersOnly (.openLane tag body) s 0x22#8 tag { status := .wrongState, body := [] }) ∧
      (s.mode ≠ .safe → (s.lane l).state ≠ .unverified →
        ∃ t : State, exec (.openLane tag body) s = .next { (if r.state = .closed then t.retry else t) with
            link := s.linkAnswering 0x22#8 .done tag [] } ∧ t.core = s.core ∧
          t.lane l = { s.lane l with state := .opened, closing := false } ∧
          (∀ k, k ≠ l → t.lane k = s.lane k) ∧ t.yard.spots = s.yard.spots ∧ t.yard.stranded = s.yard.stranded ∧
          t.fleet = s.fleet ∧ t.service = s.service ∧ t.energy = s.energy ∧ t.roster = s.roster ∧ t.bus = s.bus ∧
          t.faults = s.faults ∧ t.notices = s.notices))

/-- R53, R60, R66, R67: VERIFY LANE: its checks in their order, and the rebuild when they pass, with no unnamed DEPARTING
vehicle, and the retry where an entry left, the lane became OPEN or a spot became free; R68: the lane is recounted. A move
that brought a vehicle there is over: its source entry waits for its berth, and the spot that it held is free, which for a
vehicle not named is the model's choice, log entry 45. A vehicle located elsewhere that is not named stands as it was,
also a DEPARTING one that has an old entry here, which R67 leaves open too (log entry 45). -/
def Obligations.VerifyRebuildsLane : Prop :=
  ∀ (tag : Byte) (body : Bytes) (s : State) (l : Nat) (list : List (Nat × Nat)), s.ready = true →
    at8 body 0 = l → at8 body 1 = list.length → list.length ≤ 8 → body.length = 2 + 3 * list.length →
    (∀ i x, list[i]? = some x → at8 body (2 + 3 * i) = x.1 ∧ at16 body (3 + 3 * i) = x.2) →
    let answer := fun x => answersOnly (.verifyLane tag body) s 0x23#8 tag { status := x, body := [] }
    let formed := list.Pairwise (fun x y => x.1 < y.1 ∧ x.2 ≠ y.2) ∧ ∀ x ∈ list, 1 ≤ x.1 ∧ x.1 ≤ (s.geo.lane l).depth
    let known := ∀ x ∈ list, ∃ v, s.byFleet x.2 = some v
    let image := ∀ p, 1 ≤ p → p ≤ 8 → ((s.lane l).image.getLsbD (p - 1) = true ↔ ∃ x ∈ list, x.1 = p)
    let fits := ∀ x ∈ list, ∀ v, s.byFleet x.2 = some v →
      ((s.vehicle v).body = .artic → (s.geo.lane l).cls = .long) ∧
      ((s.vehicle v).state = .unknown ∨
        (∃ p, (s.vehicle v).loc = .lane l p ∧ ((s.vehicle v).state = .parked ∨ (s.vehicle v).state = .toBerth)) ∨
        ((s.vehicle v).state = .departing ∧ (s.vehicle v).loc = .lane l x.1 ∧
          (s.lane l).at? x.1 = some { vehicle := v, pos := x.1, mark := .leavingCall }))
    1 ≤ l → l ≤ s.geo.numLanes → s.clean = true →
    let moving := fun (v k : Nat) => 1 ≤ k ∧ k ≤ s.geo.numLanes ∧ ∃ e ∈ (s.lane k).entries, ∃ d,
      e.vehicle = v ∧ e.mark = .leavingMove d false
    let settled := fun (v : Nat) => (s.vehicle v).state ≠ .departing ∧
      ((∃ x ∈ list, s.byFleet x.2 = some v) ∨ ∃ p, (s.vehicle v).loc = .lane l p)
    (¬ formed → answer .malformed) ∧ (formed → ¬ known → answer .notFound) ∧
    (formed → known → s.mode = .safe → answer .safeMode) ∧
    (formed → known → s.mode = .census ∨ s.mode = .configure → answer .wrongState) ∧
    (formed → known → s.mode = .running → (s.lane l).state ≠ .unverified → answer .wrongState) ∧
    (formed → known → s.mode = .running → (s.lane l).state = .unverified → ¬ (image ∧ fits) → answer .conflict) ∧
    (formed → known → s.mode = .running → (s.lane l).state = .unverified → image → fits →
      s.fleet.vehicles.wf = true → (∀ v i j, moving v i → moving v j → i = j) →
      (∀ x ∈ list, ∀ v, s.byFleet x.2 = some v → (s.vehicle? v).isSome = true ∧ (s.vehicle v).fleet = x.2) →
      (∀ v p, (s.vehicle v).state = .departing → (s.vehicle v).loc = .lane l p → ∃ x ∈ list, s.byFleet x.2 = some v) →
      ∃ (t : State) (retried : Bool), exec (.verifyLane tag body) s =
          .next { (if retried then t.retry else t) with link := s.linkAnswering 0x23#8 .done tag [] } ∧ t.core = s.core ∧
        (retried = true ↔ (s.lane l).closing = false ∨
          (∃ e ∈ (s.lane l).entries, ∀ x ∈ list, ¬ (s.byFleet x.2 = some e.vehicle ∧ x.1 = e.pos)) ∨
          ∃ n v, 1 ≤ n ∧ n ≤ s.geo.numSpots ∧ s.spot n = some (.held v) ∧ settled v) ∧
        t.lane l = { s.lane l with
          state := if (s.lane l).closing then .closed else .opened
          closing := false
          entries := list.map (fun x =>
            { vehicle := (s.byFleet x.2).getD 0
              pos := x.1
              mark := if (s.vehicle ((s.byFleet x.2).getD 0)).state = .departing then .leavingCall else .settled })
          inversions := (t.lane l).inversions } ∧ s.recounted t l ∧
        (∀ x ∈ list, ∀ v, s.byFleet x.2 = some v → t.vehicle v =
          if (s.vehicle v).state = .departing then s.vehicle v else { s.vehicle v with state := .parked, loc := .lane l x.1 }) ∧
        (∀ v p, (s.vehicle v).loc = .lane l p → (∀ x ∈ list, s.byFleet x.2 ≠ some v) →
          t.vehicle v = { s.vehicle v with state := .unknown, loc := .absent }) ∧
        (∀ v, (∀ p, (s.vehicle v).loc ≠ .lane l p) → (∀ x ∈ list, s.byFleet x.2 ≠ some v) → t.vehicle? v = s.vehicle? v) ∧
        (∀ k, k ≠ l → 1 ≤ k → k ≤ s.geo.numLanes →
          (t.lane k).entries.length = (s.lane k).entries.length ∧
          t.lane k = { s.lane k with entries := (t.lane k).entries } ∧
          ∀ (i : Nat) (e : Entry), (s.lane k).entries[i]? = some e →
            (∀ d b, e.mark = .leavingMove d b → settled e.vehicle →
              (t.lane k).entries[i]? = some { e with mark := .leavingMove d true }) ∧
            ((∀ d b, e.mark ≠ .leavingMove d b) ∨ ¬ settled e.vehicle → (t.lane k).entries[i]? = some e)) ∧
        (∀ n, 1 ≤ n → n ≤ s.geo.numSpots →
          (∀ v, s.spot n = some (.held v) → settled v → t.spot n = none) ∧
          ((∀ v, s.spot n = some (.held v) → ¬ settled v) → t.spot n = s.spot n)) ∧
        t.service = s.service ∧ t.roster = s.roster ∧ t.yard.stranded = s.yard.stranded)

/-- R60, R68, R74, R75: MOVE VEHICLE in RUNNING: from a lane or a spot to a lane that is a candidate, to a free spot, and
the refusals of its checks. The model's choice in it: log entry 43. -/
def Obligations.MoveVehicleStarts : Prop :=
  ∀ (tag : Byte) (body : Bytes) (s : State), s.ready = true → body.length = 4 →
    let n := at8 body 3
    let answer := fun x => answersOnly (.moveVehicle tag body) s 0x24#8 tag { status := x, body := [] }
    let defined := at8 body 2 = 7 ∨ at8 body 2 = 8
    let exists' := 1 ≤ n ∧ (at8 body 2 = 7 → n ≤ s.geo.numLanes) ∧ (at8 body 2 = 8 → n ≤ s.geo.numSpots)
    let deadline := s.now + s.beh.moveTimeout
    (¬ defined → answer .malformed) ∧
    (defined → s.byFleet (at16 body 0) = none → answer .notFound) ∧
    (defined → ¬ exists' → s.passes (settingsRecord 1) = true → answer .notFound) ∧
    (∀ v, defined → exists' → s.byFleet (at16 body 0) = some v → s.clean = true → (s.vehicle? v).isSome = true →
      let r := s.vehicle v
      let movable := r.state = .inOverflow ∨ (r.state = .parked ∧ ∃ k p e, r.loc = .lane k p ∧
        (s.lane k).entries.head? = some e ∧ e.vehicle = v ∧ (s.lane k).state ≠ .unverified ∧
        (∀ x ∈ (s.lane k).entries, x.mark.isLeaving = false) ∧
        ((s.geo.lane k).kind = .dead → ∀ x ∈ (s.lane k).entries, x.mark.isArriving = false))
      let own := (at8 body 2 = 7 ∧ ∃ p, r.loc = .lane n p) ∨ (at8 body 2 = 8 ∧ r.loc = .overflow n)
      let opens := (at8 body 2 = 7 ∧ s.candidate v n = true) ∨ (at8 body 2 = 8 ∧ s.spot n = none)
      (s.mode = .safe → answer .safeMode) ∧ (s.mode = .census ∨ s.mode = .configure → answer .wrongState) ∧
      (s.mode = .running → ¬ movable → answer .wrongState) ∧
      (s.mode = .running → movable → own ∨ ¬ opens → answer .conflict) ∧
      (s.mode = .running → movable → ¬ own → opens →
        let pos := targetPos (s.geo.lane n) (s.lane n).entries
        let after := fun (t : State) => exec (.moveVehicle tag body) s = .next t ∧ s.answers t 0x24#8 .done tag [] ∧
          (∀ w, w ≠ v → t.vehicle? w = s.vehicle? w) ∧ t.service = s.service ∧ t.roster = s.roster ∧
          t.yard.stranded = s.yard.stranded
        let arrives := fun (t : State) =>
          t.vehicle v = { r with state := .toBerth, loc := .lane n pos } ∧
          t.lane n = { s.lane n with
            entries := insertEntry { vehicle := v, pos := pos, mark := .arriving deadline } (s.lane n).entries
            inversions := (t.lane n).inversions } ∧ s.recounted t n ∧
          t.yard.spots = s.yard.spots ∧ (s.orderedIn v n = false → t.notices.pending &&& (1#16 <<< 2) ≠ 0#16)
        let leaves := fun (t : State) (k p : Nat) => t.lane k = { s.lane k with entries := (s.lane k).entries.map (fun e =>
          if e.vehicle = v ∧ e.pos = p then { e with mark := .leavingMove deadline false } else e) }
        (∀ k p, r.state = .parked → r.loc = .lane k p → at8 body 2 = 7 →
          ∃ t, after t ∧ arrives t ∧ leaves t k p ∧ (∀ j, j ≠ k → j ≠ n → t.lane j = s.lane j)) ∧
        (∀ k p, r.state = .parked → r.loc = .lane k p → at8 body 2 = 8 →
          ∃ t, after t ∧ leaves t k p ∧ (∀ j, j ≠ k → t.lane j = s.lane j) ∧
            t.vehicle v = { r with state := .toBerth, loc := .overflow n } ∧
            t.spot n = some (.reserved v deadline) ∧ (∀ j, j ≠ n → t.spot j = s.spot j)) ∧
        (∀ k, r.state = .inOverflow → r.loc = .overflow k → at8 body 2 = 7 →
          ∃ t, after t ∧ arrives t ∧ (∀ j, j ≠ n → t.lane j = s.lane j) ∧ t.energy = s.energy) ∧
        (∀ k, r.state = .inOverflow → r.loc = .overflow k → at8 body 2 = 8 →
          ∃ t : State, exec (.moveVehicle tag body) s = .next { t.retry with link := s.linkAnswering 0x24#8 .done tag [] } ∧
            t.core = s.core ∧ (∀ w, w ≠ v → t.vehicle? w = s.vehicle? w) ∧ t.service = s.service ∧
            t.roster = s.roster ∧ t.yard.stranded = s.yard.stranded ∧ t.yard.lanes = s.yard.lanes ∧
            t.vehicle v = { r with state := .inOverflow, loc := .overflow n } ∧
            t.spot n = some (.held v) ∧ t.spot k = none ∧ (∀ j, j ≠ n → j ≠ k → t.spot j = s.spot j) ∧
            t.energy = s.energy)))

/-- R25, R48, R68, R76, R181: PLACE VEHICLE in CENSUS of a vehicle that is OUT, UNKNOWN, PARKED, IN-OVERFLOW or TO-BERTH,
in a gate queue, on the pad, on its way to a bay or in one, in a wash queue or a wash lane, or STRANDED: where it now
stands, and what it gives up; and the refusals of its checks. The model's choices in it: log entries 43, 46. -/
def Obligations.PlaceVehicleInCensus : Prop :=
  ∀ (tag : Byte) (body : Bytes) (s : State), s.ready = true → body.length = 5 →
    let kind := at8 body 2
    let n := at8 body 3
    let pos := at8 body 4
    let answer := fun x => answersOnly (.placeVehicle tag body) s 0x25#8 tag { status := x, body := [] }
    let exists' := (kind = 7 → 1 ≤ n ∧ n ≤ s.geo.numLanes) ∧ (kind = 8 → 1 ≤ n ∧ n ≤ s.geo.numSpots)
    (kind ≠ 7 → kind ≠ 8 → kind ≠ 10 → answer .malformed) ∧
    (kind = 7 ∨ kind = 8 ∨ kind = 10 → s.byFleet (at16 body 0) = none → answer .notFound) ∧
    (kind = 7 ∨ kind = 8 → ¬ exists' → s.passes (settingsRecord 1) = true → answer .notFound) ∧
    (∀ v, kind = 7 ∨ kind = 8 ∨ kind = 10 → exists' → s.byFleet (at16 body 0) = some v → s.clean = true →
      (s.vehicle? v).isSome = true →
      let r := s.vehicle v
      let fits := (kind = 7 → 1 ≤ pos ∧ pos ≤ (s.geo.lane n).depth ∧ (r.body = .artic → (s.geo.lane n).cls = .long) ∧
          ∀ e, (s.lane n).at? pos = some e → e.vehicle = v) ∧
        (kind = 8 → s.spot n = none ∨ s.spot n = some (.held v))
      let stands := (kind = 7 ∧ r.state = .parked ∧ r.loc = .lane n pos) ∨
        (kind = 8 ∧ r.state = .inOverflow ∧ r.loc = .overflow n)
      (s.mode ≠ .census → answer .wrongState) ∧ (s.mode = .census → ¬ fits → answer .conflict) ∧
      (s.mode = .census → fits → stands → answersOnly (.placeVehicle tag body) s 0x25#8 tag
        { status := .done, body := be8 (stateCode r.state) ++ locBytes r.loc }) ∧
      (s.mode = .census → fits → ¬ stands →
        let st := if kind = 7 then VehState.parked else if kind = 8 then .inOverflow else .out
        let loc := if kind = 7 then Loc.lane n pos else if kind = 8 then .overflow n else .absent
        let placed := fun (t : State) => exec (.placeVehicle tag body) s = .next t ∧
          s.answers t 0x25#8 .done tag (be8 (stateCode st) ++ locBytes loc) ∧ t.vehicle v = { r with state := st, loc := loc } ∧
          (∀ l, 1 ≤ l → l ≤ s.geo.numLanes →
            (t.lane l).state = (s.lane l).state ∧ (t.lane l).closing = (s.lane l).closing ∧
            (t.lane l).image = (s.lane l).image ∧
            (t.lane l).entries =
              (let kept := (s.lane l).entries.filter (fun e => e.vehicle != v)
               if kind = 7 ∧ l = n then insertEntry { vehicle := v, pos := pos, mark := .settled } kept else kept) ∧
            (if (kind = 7 ∧ l = n) ∨ ∃ e ∈ (s.lane l).entries, e.vehicle = v then s.recounted t l
              else (t.lane l).inversions = (s.lane l).inversions)) ∧
          (∀ j, 1 ≤ j → j ≤ s.geo.numSpots → t.spot j =
            if kind = 8 ∧ j = n then some (.held v)
            else if (s.spot j).any (fun x => x.vehicle == v) then none else s.spot j) ∧
          t.yard.stranded = s.yard.stranded.filter (· != v) ∧ t.roster = s.roster
        let alone := fun (t : State) => ∀ w, w ≠ v → t.vehicle? w = s.vehicle? w
        (r.state = .out ∨ r.state = .unknown ∨ r.state = .parked ∨ r.state = .inOverflow ∨ r.state = .toBerth →
          ∃ t, placed t ∧ alone t ∧ t.service = s.service) ∧
        (∀ g k, r.state = .atGate → r.loc = .gateQueue g k → g = 1 ∨ g = 2 →
          ∃ t, placed t ∧ t.gateQueue g = (s.gateQueue g).filter (fun x => x.vehicle != v) ∧
            t.gateQueue (3 - g) = s.gateQueue (3 - g) ∧ t.service.pad = s.service.pad ∧ t.service.bays = s.service.bays ∧
            t.service.washes = s.service.washes ∧
            (∀ (i : Nat) x, (t.gateQueue g)[i]? = some x → (s.vehicle? x.vehicle).isSome = true →
              (∀ (j : Nat) y, (t.gateQueue g)[j]? = some y → y.vehicle = x.vehicle → j = i) →
              t.vehicle x.vehicle = { s.vehicle x.vehicle with state := .atGate, loc := .gateQueue g (i + 1) }) ∧
            ∀ w, w ≠ v → (∀ x ∈ s.gateQueue g, x.vehicle ≠ w) → t.vehicle? w = s.vehicle? w) ∧
        (∀ k, r.state = .onPad → r.loc = .pad k →
          ∃ t, placed t ∧ alone t ∧ t.pad k = none ∧ (∀ j, j ≠ k → t.pad j = s.pad j) ∧
            t.service = { s.service with pad := t.service.pad }) ∧
        (∀ b, r.state = .toBay ∨ r.state = .inBay ∨ r.state = .stranded → r.loc = .bay b →
          ∃ t, placed t ∧ alone t ∧
            t.bay b = {
              state := (match (s.bay b).state with
                | .awaiting => if (s.bay b).closing then .closed else .free
                | .serving => .finished
                | x => x)
              closing := (s.bay b).closing && (s.bay b).state != .awaiting
              occupant := none
              onward := false
              deadline := none } ∧
            (∀ c, c ≠ b → t.bay c = s.bay c) ∧ t.service = { s.service with bays := t.service.bays }) ∧
        (∀ l, (∃ k, r.state = .toWash ∧ r.loc = .washQueue l k) ∨
            ((r.state = .washing ∨ r.state = .stranded) ∧ r.loc = .wash l) →
          let w := s.wash l
          let occupies := r.state = .washing ∨ (r.state = .stranded ∧ w.occupant = some v)
          let queue := if occupies then w.queue else w.queue.filter (fun x => x.vehicle != v)
          let left := if occupies ∧ w.state = .washing then .idle else w.state
          let closes := left = .idle ∧ w.closing = true ∧ queue = []
          ∃ t, placed t ∧
            t.wash l = {
              state := if closes then .closed else left
              closing := if closes then false else w.closing
              occupant := if occupies then none else w.occupant
              queue := queue } ∧
            (∀ k, k ≠ l → t.wash k = s.wash k) ∧ t.service = { s.service with washes := t.service.washes } ∧
            (occupies → alone t) ∧
            (∀ (i : Nat) x, ¬ occupies → queue[i]? = some x → (s.vehicle x.vehicle).state = .toWash →
              (∀ (j : Nat) y, queue[j]? = some y → y.vehicle = x.vehicle → j = i) →
              t.vehicle x.vehicle = { s.vehicle x.vehicle with loc := .washQueue l (i + 1) }) ∧
            ∀ u, u ≠ v → (s.vehicle u).state ≠ .toWash ∨ (∀ x ∈ w.queue, x.vehicle ≠ u) → t.vehicle? u = s.vehicle? u)))

/-- R60, R61, R62, R63, R68, R106: LANE REPORT: from no lane; on an UNVERIFIED lane; with nothing changed; with one
position become occupied or empty, and the retry and the attempt pass that follow, the two in either order. The model's
choice in it: log entry 10. -/
def Obligations.LaneReportJudged : Prop :=
  ∀ (s : State) (m : InMsg) (rest : List InMsg) (order : Bool),
    s.clean = true → s.bus.inbound = m :: rest → m.kind = 0x14#8 →
    let u := s.taking rest
    let set := BitVec.ofNat 8 (at8 m.payload 1)
    let sent := fun l => 1 ≤ l ∧ l ≤ s.geo.numLanes ∧ (s.geo.lane l).node = m.source.toNat ∧
      (s.geo.lane l).index = at8 m.payload 0
    let moving := fun (v k : Nat) => 1 ≤ k ∧ k ≤ s.geo.numLanes ∧ ∃ x ∈ (s.lane k).entries, ∃ d,
      x.vehicle = v ∧ x.mark = .leavingMove d false
    let ended := fun (v : Nat) (x : Entry) => match x.mark with
      | .leavingMove d _ => if x.vehicle = v then { x with mark := .leavingMove d true } else x
      | _ => x
    ((∀ l, ¬ sent l) → exec (.laneReport order) s = .next u) ∧
    (∀ l, sent l → (∀ k, sent k → k = l) →
      let r := s.lane l
      let depth := (s.geo.lane l).depth
      let image := set &&& BitVec.ofNat 8 (2 ^ depth - 1)
      (r.state = .unverified ∨ image = r.image →
        exec (.laneReport order) s = .next (u.setLane l { r with image := image })) ∧
      (∀ p, r.state ≠ .unverified → 1 ≤ p → p ≤ depth → depth ≤ 8 →
        (∀ q, 1 ≤ q → q ≤ 8 → q ≠ p → image.getLsbD (q - 1) = r.image.getLsbD (q - 1)) →
        let after := fun (t : State) => t.core = u.core ∧ t.service = s.service ∧
          t.roster.staged = s.roster.staged ∧ t.yard.stranded = s.yard.stranded
        (image.getLsbD (p - 1) = true → r.image.getLsbD (p - 1) = false →
          (∀ e d, r.at? p = some e → e.mark = .arriving d → (s.vehicle? e.vehicle).isSome = true →
            (∀ i j, moving e.vehicle i → moving e.vehicle j → i = j) →
            let frees := (upTo 1 s.geo.numSpots).any (fun n => s.spot n == some (.held e.vehicle))
            ∃ t : State, exec (.laneReport order) s = .next (if frees then t.retry else t) ∧ after t ∧
              (∀ k, k ≠ l → 1 ≤ k → k ≤ s.geo.numLanes →
                t.lane k = { s.lane k with entries := (s.lane k).entries.map (ended e.vehicle) }) ∧
              t.lane l = { r with
                image := image
                entries := r.entries.map (fun x =>
                  ended e.vehicle (if x.vehicle = e.vehicle ∧ x.pos = p then { x with mark := .settled } else x))
                state := if r.closing then .closed else r.state
                closing := false } ∧
              t.vehicle e.vehicle = { s.vehicle e.vehicle with state := .parked, loc := .lane l p } ∧
              (∀ w, w ≠ e.vehicle → t.vehicle? w = s.vehicle? w) ∧ t.roster = s.roster ∧
              (∀ n, 1 ≤ n → n ≤ s.geo.numSpots →
                t.spot n = if s.spot n = some (.held e.vehicle) then none else s.spot n)) ∧
          (∀ e, r.at? p = some e → e.mark.isArriving = false →
            exec (.laneReport order) s = .next (u.setLane l { r with image := image })) ∧
          (r.at? p = none → exec (.laneReport order) s = .next
            (((u.setLane l { r with image := image, state := .unverified, closing := r.closing || r.state == .closed }).report
              .l2 l).raise .sensorMismatch))) ∧
        (image.getLsbD (p - 1) = false → r.image.getLsbD (p - 1) = true →
          (∀ e, r.at? p = some e → e.mark.isLeaving = true →
            let kept := r.entries.filter (fun x => !(x.vehicle == e.vehicle && x.pos == p))
            ∃ t, exec (.laneReport order) s =
                .next (if order then (t.attemptPass []).retry else t.retry.attemptPass []) ∧ after t ∧
              (∀ k, k ≠ l → t.lane k = s.lane k) ∧ (t.lane l).entries = kept ∧ s.recounted t l ∧ (t.lane l).image = image ∧
              ((t.lane l).state = if r.closing = true ∧ ∀ x ∈ kept, x.mark.isArriving = false then .closed else r.state) ∧
              (e.mark = .leavingCall → (s.vehicle? e.vehicle).isSome = true → (s.vehicle e.vehicle).state = .departing →
                (s.vehicle e.vehicle).loc = .lane l p →
                t.vehicle e.vehicle = { s.vehicle e.vehicle with loc := .apron } ∧
                (∀ n x c, (s.vehicle e.vehicle).assignment = some n → s.slot n = some x → x.call = some c →
                  t.slot n = some { x with call := some { c with cleared := true } })) ∧
              (∀ d, e.mark = .leavingMove d true → t.fleet = s.fleet ∧ t.yard.spots = s.yard.spots) ∧
              (∀ d n, e.mark = .leavingMove d false → (s.vehicle? e.vehicle).isSome = true →
                (s.vehicle e.vehicle).state = .toBerth → (s.vehicle e.vehicle).loc = .overflow n →
                t.vehicle e.vehicle = { s.vehicle e.vehicle with state := .inOverflow } ∧
                t.spot n = some (.held e.vehicle)) ∧
              (e.mark = .leavingExit → t.fleet = s.fleet ∧ t.roster = s.roster) ∧
              (∀ w, w ≠ e.vehicle → t.vehicle? w = s.vehicle? w) ∧ t.energy = s.energy) ∧
          (∀ e, r.at? p = some e → e.mark.isLeaving = false → exec (.laneReport order) s = .next
            (((u.setLane l { r with image := image, state := .unverified, closing := r.closing || r.state == .closed }).report
              .l2 l).raise .sensorMismatch)) ∧
          (r.at? p = none → exec (.laneReport order) s = .next (u.setLane l { r with image := image })))))

/-- R32, R43: the movement to a bay, and into a wash lane with one vehicle in its queue, expires; a bay that becomes FREE
is not given to a turn outside RUNNING. R60, R64, R68: a lane or overflow movement expires, and the stranded list is
retried: an ARRIVING entry, a reserved spot, and a LEAVING entry of a move that is over or goes on at its destination
alone; before its deadline nothing changes. The model's choices in it: log entries 15, 48. -/
def Obligations.MovementsExpire : Prop :=
  (∀ (s : State) (v d : Nat), s.clean = true → s.clock.isSet = true → d ≤ s.now → (s.vehicle? v).isSome = true →
     (∀ b, 1 ≤ b → b ≤ s.geo.numBays → (s.bay b).occupant = some v → (s.bay b).onward = false →
       (s.bay b).deadline = some d → (s.vehicle v).state = .toBay →
       (s.bay b).state = .faulted ∨ (s.bay b).closing = true ∨ s.mode ≠ .running →
       ∃ t, exec (.bayMovementExpiry b) s = .next t ∧ t.core = s.core ∧
         t.vehicle v = { s.vehicle v with state := .unknown, loc := .absent } ∧
         (∀ w, w ≠ v → t.vehicle? w = s.vehicle? w) ∧
         (t.bay b).occupant = none ∧ (t.bay b).deadline = none ∧
         ((s.bay b).state = .awaiting →
           (t.bay b).state = if (s.bay b).closing then .closed else .free) ∧
         ((s.bay b).state ≠ .awaiting → (t.bay b).state = (s.bay b).state) ∧
         (∀ c, c ≠ b → t.bay c = s.bay c) ∧ t.service.washes = s.service.washes ∧ t.yard = s.yard ∧
         t.energy = s.energy ∧ t.roster = s.roster ∧ t.bus = s.bus ∧ t.faults = (s.report .l1 v).faults ∧
         t.notices.pending = (s.report .l1 v).notices.pending ||| (1#16 <<< 3)) ∧
     (∀ l e, 1 ≤ l → l ≤ s.geo.numWashes → (s.wash l).queue = [e] → e.vehicle = v → e.directed = some d →
       ∃ t, exec (.washMovementExpiry l) s = .next t ∧ t.core = s.core ∧
         t.vehicle v = { s.vehicle v with state := .unknown, loc := .absent } ∧
         (∀ w, w ≠ v → t.vehicle? w = s.vehicle? w) ∧ (t.wash l).queue = [] ∧
         (t.wash l).occupant = (s.wash l).occupant ∧ (∀ k, k ≠ l → t.wash k = s.wash k) ∧
         t.service.bays = s.service.bays ∧ t.yard = s.yard ∧ t.energy = s.energy ∧ t.roster = s.roster ∧
         t.bus = s.bus ∧ t.faults = (s.report .l1 v).faults ∧
         t.notices.pending = (s.report .l1 v).notices.pending ||| (1#16 <<< 3)) ∧
     (∀ b d', (s.bay b).deadline = some d' → s.now < d' → exec (.bayMovementExpiry b) s = .next s) ∧
     (∀ l e q d', (s.wash l).queue = e :: q → e.directed = some d' → s.now < d' →
       exec (.washMovementExpiry l) s = .next s)) ∧
  (∀ (s : State) (v d : Nat), s.clean = true →
     let entry := fun (l : Nat) (e : Entry) => 1 ≤ l ∧ l ≤ s.geo.numLanes ∧ e ∈ (s.lane l).entries ∧ e.vehicle = v
     let goesOn := fun (e : Entry) => e.vehicle = v ∧ ∃ x, e.mark = .leavingMove x false
     let oneMove := ∀ i j e f, entry i e → entry j f → goesOn e → goesOn f → i = j
     let reserved := fun (n x : Nat) => 1 ≤ n ∧ n ≤ s.geo.numSpots ∧ s.spot n = some (.reserved v x)
     let after := fun (t : State) => exec (.laneMovementExpiry v) s = .next t.retry ∧ t.core = s.core ∧
       (∀ w, w ≠ v → t.vehicle? w = s.vehicle? w) ∧ t.service = s.service ∧ t.roster = s.roster ∧ t.energy = s.energy ∧
       t.bus = s.bus ∧ t.yard.stranded = s.yard.stranded
     let without := fun (t : State) (gone : Nat → Entry → Prop) => ∀ l, 1 ≤ l → l ≤ s.geo.numLanes →
       ((∀ e ∈ (s.lane l).entries, ¬ gone l e) → t.lane l = s.lane l) ∧
       (∀ e ∈ (s.lane l).entries, gone l e →
         (t.lane l).state = .unverified ∧ (t.lane l).closing = ((s.lane l).closing || (s.lane l).state == .closed) ∧
         (t.lane l).image = (s.lane l).image ∧ s.recounted t l ∧ (t.lane l).entries.Sublist (s.lane l).entries ∧
         ∀ x, x ∈ (t.lane l).entries ↔ x ∈ (s.lane l).entries ∧ ¬ gone l x)
     let lost := fun (t : State) => t.vehicle v = { s.vehicle v with state := .unknown, loc := .absent } ∧
       t.faults = (s.report .l1 v).faults ∧ t.notices.pending &&& (1#16 <<< 3) ≠ 0#16 ∧
       (∀ n, 1 ≤ n → n ≤ s.geo.numSpots → t.spot n = if (s.spot n).any (fun x => x.vehicle == v) then none else s.spot n)
     (∀ l e, s.clock.isSet = true → d ≤ s.now → (s.vehicle? v).isSome = true → oneMove → entry l e → e.mark = .arriving d →
       (∀ k f x, entry k f → f.mark = .arriving x → k = l ∧ f = e) →
       ∃ t, after t ∧ lost t ∧ without t (fun k f => goesOn f ∨ (k = l ∧ f.vehicle = v ∧ f.pos = e.pos))) ∧
     (∀ n, s.clock.isSet = true → d ≤ s.now → (s.vehicle? v).isSome = true → oneMove → reserved n d →
       (∀ k f x, entry k f → f.mark ≠ .arriving x) →
       ∃ t, after t ∧ lost t ∧ without t (fun _ f => goesOn f)) ∧
     (∀ l e b, s.clock.isSet = true → d ≤ s.now → entry l e → e.mark = .leavingMove d b →
       (∀ k f x y, entry k f → f.mark = .leavingMove x y → k = l ∧ f = e) → (∀ k f x, entry k f → f.mark ≠ .arriving x) →
       (∀ n x, ¬ reserved n x) →
       ∃ t, after t ∧ without t (fun k f => k = l ∧ f.vehicle = v ∧ f.pos = e.pos) ∧ t.fleet = s.fleet ∧
         t.yard.spots = s.yard.spots ∧ t.faults = (s.report .l2 l).faults ∧ t.notices.pending &&& (1#16 <<< 4) ≠ 0#16) ∧
     ((s.clock.isSet = false ∨
         ((∀ l e x, entry l e → e.mark = .arriving x → s.now < x) ∧
           (∀ l e x b, entry l e → e.mark = .leavingMove x b → s.now < x) ∧ ∀ n x, reserved n x → s.now < x)) →
       exec (.laneMovementExpiry v) s = .next s))

/-- R45, R58, R60, R68: a retry of the stranded list: none outside RUNNING; a vehicle that finds nowhere keeps its place;
the oldest one that finds a spot or a lane leaves the list, and its bay or wash lane is released. The model's choice in
it: log entry 40. -/
def Obligations.StrandedRetried : Prop :=
  ∀ (s : State) (v : Nat) (vs : List Nat),
    let t := s.retry
    let r := s.vehicle v
    let released := fun (node : Nat) (kind : DestKind) (number : Nat) =>
      t.core = s.core ∧ (∀ w, w ≠ v → t.vehicle? w = s.vehicle? w) ∧ t.yard.stranded = vs ∧ t.energy = s.energy ∧
      t.roster = s.roster ∧ t.service.pad = s.service.pad ∧
      (∀ b, r.loc = .bay b → node = (s.geo.bay b).node ∧ t.bay b = { s.bay b with onward := true } ∧
        (∀ c, c ≠ b → t.bay c = s.bay c) ∧ t.service.washes = s.service.washes) ∧
      (∀ l, r.loc = .wash l → node = s.geo.washNode l ∧ t.service.bays = s.service.bays ∧
        (∀ k, k ≠ l → t.wash k = s.wash k) ∧
        ((s.wash l).state = .washing → t.wash l = { s.wash l with
          state := if (s.wash l).closing then .closed else .idle, closing := false, occupant := none }) ∧
        ((s.wash l).state = .faulted → t.wash l = { s.wash l with occupant := none })) ∧
      (s.bus.outFull = false → s.bus.heldOver = [] →
        ({ dest := node, source := s.geo.serviceAddr, urgent := false,
           body := .direct r.fleet kind number } : OutMsg) ∈ t.bus.normal)
    (s.mode ≠ .running → t = s) ∧
    (s.mode = .running → (∀ w ∈ s.yard.stranded, s.chooseBerth w = .nowhere) → t = s) ∧
    (s.mode = .running → s.yard.stranded = v :: vs → v ∉ vs → (s.vehicle? v).isSome = true →
      (∃ b, r.loc = .bay b) ∨ (∃ l, r.loc = .wash l ∧ (s.wash l).occupant = some v ∧ (s.wash l).queue = []) →
      (∀ n, s.chooseBerth v = .spot n → (∀ k, 1 ≤ k → k ≤ s.geo.numSpots → s.spot k = none → k = n) →
        (∀ w ∈ vs, ∀ l, 1 ≤ l → l ≤ s.geo.numLanes → s.candidate w l = false) →
        ∃ node, released node .overflow n ∧ t.vehicle v = { r with state := .inOverflow, loc := .overflow n } ∧
          t.spot n = some (.held v) ∧ (∀ k, k ≠ n → t.spot k = s.spot k) ∧ t.yard.lanes = s.yard.lanes) ∧
      (∀ l block, vs = [] → s.chooseBerth v = .lane l block →
        let pos := targetPos (s.geo.lane l) (s.lane l).entries
        let entry : Entry := { vehicle := v, pos := pos, mark := .arriving (s.now + s.beh.moveTimeout) }
        ∃ node, released node .lane l ∧ t.vehicle v = { r with state := .toBerth, loc := .lane l pos } ∧
          t.lane l = { s.lane l with
            entries := insertEntry entry (s.lane l).entries
            inversions := (t.lane l).inversions } ∧ s.recounted t l ∧
          (∀ k, k ≠ l → t.lane k = s.lane k) ∧ t.yard.spots = s.yard.spots ∧
          (block = true → t.notices.pending &&& (1#16 <<< 2) ≠ 0#16)))

/-! ### Charging and the site budget (chapter 5) -/

/-- R96, R97, R98: a refresh of the budget by SET BUDGET and by SITE LIMIT, a SITE LIMIT from another source, and the
budget becoming STALE. The model's choices in it: log entries 13, 15. -/
def Obligations.BudgetRefreshedOrStale : Prop :=
  ∀ (s : State) (tag : Byte) (body : Bytes) (m : InMsg) (rest : List InMsg), s.clean = true →
    let refreshed := fun (t : State) (kw : Nat) (src : Source) =>
      t.energy.budget = {
        fresh := true
        last := some (min kw s.beh.contract, src)
        deadline := if s.clock.isSet then some (s.now + s.beh.refresh) else none } ∧
      t.effective = (if s.mode = .safe then min (min kw s.beh.contract) s.beh.fallback else min kw s.beh.contract) ∧
      t.jobs = s.jobs ∧ (∀ p, (t.point p).cond = (s.point p).cond ∧ (t.point p).stop = (s.point p).stop ∧
        ((t.point p).session.isSome = (s.point p).session.isSome)) ∧
      (t.effective = s.effective → t.energy.points = s.energy.points ∧ t.faults = s.faults ∧ t.notices = s.notices)
    (s.ready = true → body.length = 2 →
      ∃ t, exec (.setBudget tag body) s = .next t ∧
        s.answers t 0x40#8 .done tag (be16 (min (at16 body 0) s.beh.contract)) ∧ refreshed t (at16 body 0) .host) ∧
    (s.bus.inbound = m :: rest → m.kind = 0x16#8 →
      (m.source.toNat = s.geo.meter →
        ∃ t, exec .siteLimit s = .next t ∧ t.core = (s.taking rest).core ∧ refreshed t (at16 m.payload 0) .meter) ∧
      (m.source.toNat ≠ s.geo.meter → exec .siteLimit s = .next (s.taking rest))) ∧
    (s.energy.budget.fresh = false ∨ s.energy.budget.deadline = none ∨ s.clock.isSet = false ∨
        (∃ d, s.energy.budget.deadline = some d ∧ s.now < d) →
      exec .budgetStale s = .next s) ∧
    (∀ d, s.energy.budget.fresh = true → s.energy.budget.deadline = some d → s.clock.isSet = true → d ≤ s.now →
      ∃ t, exec .budgetStale s = .next t ∧ t.core = s.core ∧ t.jobs = s.jobs ∧
        t.energy.budget = { s.energy.budget with fresh := false } ∧
        t.effective = (match s.energy.budget.last with
          | some x => min x.1 s.beh.fallback
          | none => s.beh.fallback) ∧
        t.faults.summary &&& (1#32 <<< 11) ≠ 0#32 ∧ t.notices.pending &&& (1#16 <<< 7) ≠ 0#16)

/-- R78, R81, R83, R100, R101, R102, R189, R190: READ ENERGY and READ SESSION, byte by byte, STOP SESSION and RESUME
SESSION, where no record check finds anything. Bytes that describe an absent session or acceptance have no stated value,
log entry 9. -/
def Obligations.SessionsStoppedAndResumed : Prop :=
  ∀ (tag : Byte) (body : Bytes) (s : State) (p : Nat), s.ready = true → s.clean = true →
    let xs := (upTo 1 s.geo.numPoints).filterMap s.session
    let budget := s.energy.budget
    let some16 := fun (x : Option Nat) => be16 (x.getD 0xFFFF)
    let open' := fun (n first : Nat) => (List.range n).map (fun i => Config.unstatedByte (first + i))
    let grade := fun (x : Option Grade) => match x with
      | some .onTrack => [0#8] | some .waiting => [1#8] | some .unreachable => [2#8] | some .complete => [3#8]
      | none => [0xFF#8]
    (body.length = 0 → 
      let reads := fun bytes => answersOnly (.readEnergy tag body) s 0x41#8 tag { status := .done, body := bytes }
      reads ((if budget.fresh then [0#8] else [1#8]) ++ some16 (budget.last.map (·.1)) ++
      (match budget.last with | none => [0xFF#8] | some (_, .meter) => [0#8] | some (_, .host) => [1#8]) ++
      be32 (budget.deadline.getD 0xFFFFFFFF) ++ be16 s.effective ++ be16 s.beh.fallback ++
      be16 (xs.map (·.grant)).sum ++ be8 (xs.countP (fun x => x.grade == some .onTrack)) ++
      be8 (xs.countP (fun x => x.grade == some .waiting)) ++ be8 (xs.countP (fun x => x.grade == some .unreachable)) ++
      be8 (xs.countP (fun x => x.grade == some .complete)) ++ be8 (xs.countP (·.capped)) ++ be8 (xs.countP (·.short)) ++
      be8 (xs.countP (·.incompat)))) ∧
    (body.length = 1 → at8 body 0 = p → p = 0 ∨ s.geo.numPoints < p →
      answersOnly (.readSession tag body) s 0x42#8 tag { status := .notFound, body := [] } ∧
      answersOnly (.stopSession tag body) s 0x43#8 tag { status := .notFound, body := [] } ∧
      answersOnly (.resumeSession tag body) s 0x44#8 tag { status := .notFound, body := [] }) ∧
    (body.length = 1 → at8 body 0 = p → 1 ≤ p → p ≤ s.geo.numPoints →
      let at' := (s.lane (s.geo.point p).lane).at? (s.geo.point p).pos
      let stands := fun v => ∃ e, at' = some e ∧ e.vehicle = v ∧ e.mark = .settled ∧ (s.vehicle v).state = .parked
      let g := s.geo.point p
      let r := s.point p
      let reads := fun bytes => answersOnly (.readSession tag body) s 0x42#8 tag { status := .done, body := bytes }
      reads (be8 g.cabinet ++ be8 g.lane ++ be8 g.pos ++ be16 g.rating ++ be16 g.pmin ++
        (match r.cond, r.stop with
          | none, _ => [0#8]
          | some .faulted, _ => [4#8]
          | some _, some _ => [5#8]
          | some .idle, none => [1#8]
          | some .connected, none => [2#8]
          | some .active, none => [3#8]) ++
        (match r.cond with
          | none => [0#8] | some .idle => [1#8] | some .connected => [2#8] | some .active => [3#8] | some .faulted => [4#8]) ++
        some16 r.stop ++ be16 r.counter ++ (match r.accept with | some a => be16 a | none => open' 2 22) ++
        some16 r.held ++ some16 r.issued ++ grade r.waiting ++
        (match r.session with
          | some x => [1#8] ++ be16 x.vehicle ++ be16 (s.fleetOf x.vehicle) ++ be16 x.startSoe ++ be16 x.delivered ++
              be16 x.requirement ++ be16 x.target ++ be16 x.deadline ++ be32 x.opened ++ be16 x.grant ++ grade x.grade ++
              be8 ((if x.capped then 1 else 0) + (if x.short then 2 else 0) + (if x.incompat then 4 else 0)) ++
              be16 x.n ++ be16 x.m ++ be16 x.c ++ be16 x.q
          | none => [0#8, 0xFF#8, 0xFF#8, 0#8, 0#8] ++ open' 10 1 ++ be32 0xFFFFFFFF ++ open' 2 11 ++ [0xFF#8] ++
              open' 9 13)) ∧
      ((∀ v, ¬ stands v) → answersOnly (.stopSession tag body) s 0x43#8 tag { status := .wrongState, body := [] }) ∧
      (∀ v, stands v → (s.point p).stop = some v →
        answersOnly (.stopSession tag body) s 0x43#8 tag { status := .done, body := [] }) ∧
      (∀ v, stands v → (s.point p).stop ≠ some v →
        ∃ t, exec (.stopSession tag body) s = .next t ∧ s.answers t 0x43#8 .done tag [] ∧ t.jobs = s.jobs ∧
          (t.point p).stop = some v ∧ (t.point p).session = none ∧
          (t.point p).cond = (s.point p).cond ∧ (t.point p).counter = (s.point p).counter ∧
          (∀ q, q ≠ p → (t.point q).stop = (s.point q).stop ∧ (t.point q).cond = (s.point q).cond ∧
            (t.point q).session.isSome = (s.point q).session.isSome) ∧ t.energy.budget = s.energy.budget) ∧
      ((s.point p).stop = none → answersOnly (.resumeSession tag body) s 0x44#8 tag { status := .wrongState, body := [] }) ∧
      ((s.point p).stop ≠ none →
        let plugged := (s.point p).cond = some .connected ∨ (s.point p).cond = some .active
        let opens := fun v => (s.mode = .running ∨ s.mode = .safe) ∧ s.clock.isSet = true ∧ plugged ∧
          (s.point p).session = none ∧ stands v ∧ (s.vehicle v).drive = .battery ∧ s.damaged v = false
        ((∀ v, ¬ opens v) → ∃ t, exec (.resumeSession tag body) s = .next t ∧ s.answers t 0x44#8 .done tag [] ∧
          t.jobs = s.jobs ∧ t.point p = { s.point p with stop := none } ∧ (∀ q, q ≠ p → t.point q = s.point q) ∧
          t.bus = s.bus ∧ t.faults = s.faults ∧ t.notices = s.notices) ∧
        (∀ v, opens v → ∃ t x, exec (.resumeSession tag body) s = .next t ∧ s.answers t 0x44#8 .done tag [] ∧
          t.jobs = s.jobs ∧ (t.point p).stop = none ∧ (t.point p).waiting = none ∧ (t.point p).session = some x ∧
          x.vehicle = v ∧ x.startSoe = (s.vehicle v).soe ∧ x.base = (s.point p).counter ∧ x.delivered = 0 ∧
          x.requirement = s.requirementOf v ∧
          x.target = min (s.vehicle v).capacity (s.requirementOf v + s.beh.reserve) ∧
          x.deadline = (s.vehicle v).key - s.beh.margin ∧ x.opened = s.now ∧
          (x.target ≤ x.startSoe → x.grade = some .complete ∧ x.grant = 0))))

/-- R79, R81, R82, R83, R85, R86, R88: POINT REPORT: the reports that are discarded; at a point without a session, each
change of its condition, with the session that opens or without one; with a session, the accounting of a report that
keeps the plug in, below the target and at it, and a changed acceptance. R79, R99: a POINT REPORT that draws the plug,
or finds the outlet failed, ends the session at the point. The model's choices in it: log entries 37, 71. -/
def Obligations.PointReportsTaken : Prop :=
  (∀ (s : State) (m : InMsg) (rest : List InMsg) (p : Nat),
     s.clean = true → s.bus.inbound = m :: rest → m.kind = 0x15#8 → at8 m.payload 0 = p →
     let u := s.taking rest
     let count := max (s.point p).counter (at16 m.payload 2)
     let kw := at16 m.payload 4
     let accept := if kw = 0 then (s.point p).accept else some kw
     let cab := s.geo.cabinetNode (s.geo.point p).cabinet
     let lane := (s.geo.point p).lane
     let holds := (s.lane lane).at? (s.geo.point p).pos
     (p = 0 ∨ s.geo.numPoints < p ∨ m.source.toNat ≠ cab ∨ at8 m.payload 1 = 0 ∨ 5 ≤ at8 m.payload 1 →
       exec .pointReport s = .next u) ∧
     (∀ c, 1 ≤ p → p ≤ s.geo.numPoints → m.source.toNat = cab → condOf (at8 m.payload 1) = some c →
       ((s.point p).session = none → (s.point p).cond = some c →
         ∃ t, exec .pointReport s = .next t ∧ t.core = u.core ∧ t.jobs = s.jobs ∧
           t.point p = { s.point p with counter := count, accept := accept } ∧ (∀ q, q ≠ p → t.point q = s.point q) ∧
           t.energy.budget = s.energy.budget ∧ t.bus = u.bus ∧ t.faults = s.faults ∧ t.notices = s.notices) ∧
       ((s.point p).session = none → (s.point p).cond ≠ some c → c = .idle →
         ∃ t, exec .pointReport s = .next t ∧ t.core = u.core ∧ t.jobs = s.jobs ∧
           t.point p = { s.point p with cond := some .idle, counter := at16 m.payload 2, accept := none, waiting := none } ∧
           (∀ q, q ≠ p → t.point q = s.point q) ∧ t.energy.budget = s.energy.budget ∧ t.bus = u.bus ∧
           t.faults = s.faults ∧ t.notices = s.notices) ∧
       ((s.point p).session = none → (s.point p).cond ≠ some c → c = .faulted →
         ∃ t, exec .pointReport s = .next t ∧ t.core = u.core ∧ t.jobs = s.jobs ∧
           t.point p = { s.point p with
             cond := some .faulted
             counter := count
             accept := accept
             waiting := (t.point p).waiting } ∧
           (∀ e, holds = some e → e.mark = .settled → (s.vehicle e.vehicle).state = .parked →
             (s.vehicle e.vehicle).drive = .battery → s.damaged e.vehicle = false →
             (t.point p).waiting = some (if 0 < s.needOf e.vehicle then .unreachable else .complete)) ∧
           (∀ q, q ≠ p → t.point q = s.point q) ∧ t.bus = u.bus ∧ t.faults = (s.report .e1 p).faults) ∧
       ((s.point p).session = none → (s.point p).cond ≠ some .connected → (s.point p).cond ≠ some .active →
         c = .connected ∨ c = .active → holds = none → (s.point p).stop = none →
         ∃ t, exec .pointReport s = .next t ∧ t.core = u.core ∧ t.fleet = s.fleet ∧ t.service = s.service ∧
           t.roster = s.roster ∧
           t.point p = { s.point p with cond := some c, counter := count, accept := accept, waiting := none } ∧
           (∀ q, q ≠ p → t.point q = s.point q) ∧ (∀ k, k ≠ lane → t.lane k = s.lane k) ∧
           ((s.lane lane).state = .unverified → t.yard = s.yard ∧ t.faults = s.faults ∧ t.notices = s.notices) ∧
           ((s.lane lane).state ≠ .unverified →
             t.lane lane = { s.lane lane with
               state := .unverified
               closing := (s.lane lane).closing || (s.lane lane).state == .closed } ∧
             t.faults = (s.report .l2 lane).faults ∧
             t.notices.pending = (s.report .l2 lane).notices.pending ||| (1#16 <<< 4))) ∧
       (∀ e, (s.point p).session = none → (s.point p).cond ≠ some .connected → (s.point p).cond ≠ some .active →
         c = .connected ∨ c = .active → s.mode = .running ∨ s.mode = .safe → s.clock.isSet = true → holds = some e →
         e.mark = .settled → (s.vehicle e.vehicle).state = .parked → (s.vehicle e.vehicle).drive = .battery →
         s.damaged e.vehicle = false → (s.point p).stop ≠ some e.vehicle →
         let v := s.vehicle e.vehicle
         ∃ t y, exec .pointReport s = .next t ∧ t.core = u.core ∧ t.jobs = s.jobs ∧ t.session p = some y ∧
           (t.point p).cond = some c ∧ (t.point p).stop = none ∧ (t.point p).waiting = none ∧
           (t.point p).counter = count ∧ (t.point p).accept = accept ∧ y.vehicle = e.vehicle ∧ y.startSoe = v.soe ∧
           y.base = count ∧ y.delivered = 0 ∧ y.requirement = s.requirementOf e.vehicle ∧
           y.target = min v.capacity (s.requirementOf e.vehicle + s.beh.reserve) ∧ y.deadline = v.key - s.beh.margin ∧
           y.opened = s.now ∧ (y.target ≤ v.soe → y.grade = some .complete ∧ y.grant = 0) ∧
           (∀ q, q ≠ p → (t.session q).isSome = (s.session q).isSome)) ∧
       (∀ x, (s.point p).session = some x → (s.point p).cond = some c → (s.vehicle? x.vehicle).isSome = true →
         kw = 0 ∨ (s.point p).accept = some kw → x.grade ≠ some .complete →
         let soe := min (s.vehicle x.vehicle).capacity (x.startSoe + min 9999 (count - x.base))
         x.target ≤ soe →
         ∃ t y, exec .pointReport s = .next t ∧ t.core = u.core ∧ t.session p = some y ∧ y.grade = some .complete ∧
           y.grant = 0 ∧ y.capped = false ∧ y.short = false ∧ y.incompat = false ∧
           y.delivered = min 9999 (count - x.base) ∧ y.target = x.target ∧ y.startSoe = x.startSoe ∧
           (t.point p).counter = count ∧ (t.point p).cond = some c ∧
           t.vehicle x.vehicle = { s.vehicle x.vehicle with soe := soe } ∧
           (∀ w, w ≠ x.vehicle → t.vehicle? w = s.vehicle? w) ∧ t.service = s.service ∧ t.yard = s.yard ∧
           t.roster = s.roster ∧ (∀ q, (t.session q).isSome = (s.session q).isSome)) ∧
       (∀ x, (s.point p).session = some x → (s.point p).cond = some c → (s.vehicle? x.vehicle).isSome = true →
         kw ≠ 0 → (s.point p).accept ≠ some kw →
         let soe := min (s.vehicle x.vehicle).capacity (x.startSoe + min 9999 (count - x.base))
         soe < x.target →
         ∃ t y, exec .pointReport s = .next t ∧ t.core = u.core ∧ t.session p = some y ∧ (t.point p).accept = some kw ∧
           y.c = min (s.geo.point p).rating (min (s.vehicle x.vehicle).acceptance kw) ∧ y.n = x.target - soe ∧
           t.vehicle x.vehicle = { s.vehicle x.vehicle with soe := soe } ∧
           (∀ w, w ≠ x.vehicle → t.vehicle? w = s.vehicle? w) ∧ t.service = s.service ∧ t.yard = s.yard ∧
           t.roster = s.roster) ∧
       (∀ x, (s.point p).session = some x → (s.vehicle? x.vehicle).isSome = true →
         (s.point p).cond = some c ∨ (((s.point p).cond = some .connected ∨ (s.point p).cond = some .active) ∧
           (c = .connected ∨ c = .active)) →
         kw = 0 ∨ (s.point p).accept = some kw →
         let soe := min (s.vehicle x.vehicle).capacity (x.startSoe + min 9999 (count - x.base))
         soe < x.target →
         ∃ t, exec .pointReport s = .next t ∧ t.core = u.core ∧
           t.point p = { s.point p with
             cond := some c
             counter := count
             session := some { x with delivered := min 9999 (count - x.base) } } ∧
           (∀ q, q ≠ p → t.point q = s.point q) ∧ t.vehicle x.vehicle = { s.vehicle x.vehicle with soe := soe } ∧
           (∀ w, w ≠ x.vehicle → t.vehicle? w = s.vehicle? w) ∧ t.service = s.service ∧ t.yard = s.yard ∧
           t.roster = s.roster ∧ t.bus = u.bus ∧ t.faults = s.faults ∧ t.notices = s.notices))) ∧
  (∀ (s : State) (m : InMsg) (rest : List InMsg) (p : Nat) (x : Session),
     s.clean = true → s.bus.inbound = m :: rest → m.kind = 0x15#8 → at8 m.payload 0 = p → 1 ≤ p → p ≤ s.geo.numPoints →
     m.source.toNat = s.geo.cabinetNode (s.geo.point p).cabinet → at8 m.payload 1 = 1 ∨ at8 m.payload 1 = 4 →
     (s.point p).session = some x → (s.point p).cond = some .connected ∨ (s.point p).cond = some .active →
     (s.vehicle? x.vehicle).isSome = true →
     let soe := min (s.vehicle x.vehicle).capacity
       (x.startSoe + min 9999 (max (s.point p).counter (at16 m.payload 2) - x.base))
     ∃ t, exec .pointReport s = .next t ∧ t.core = (s.taking rest).core ∧ (t.point p).session = none ∧
       (t.point p).cond = some (if at8 m.payload 1 = 1 then .idle else .faulted) ∧
       (at8 m.payload 1 = 1 → (t.point p).counter = at16 m.payload 2 ∧ (t.point p).accept = none ∧
         (t.point p).waiting = none) ∧
       t.vehicle x.vehicle = { s.vehicle x.vehicle with soe := soe } ∧
       (∀ w, w ≠ x.vehicle → t.vehicle? w = s.vehicle? w) ∧ t.service = s.service ∧ t.yard = s.yard ∧
       t.roster = s.roster ∧
       (at8 m.payload 1 = 4 → t.faults.summary &&& (1#32 <<< 10) ≠ 0#32))

/-- R88, R90, R91: after every recomputation of the allocation, in every state, the grants add up to no more than the
effective budget, and each is 0 or lies from the point's minimum run power to what the session can take. R88, R89,
R90, R91: the two passes of a recomputation, in every state: the sessions that take part by deadline, then by point
number, what pass 1 gives each of what is left to it, SHORT, and what pass 2 adds; E3 for a session that becomes
INCOMPATIBLE, and no report where none does and no SETPOINT is lost. R84, R86, R88, R89, R92: every recomputation of
the allocation forms and grades each open session, in every state; and re-targeting gives each its figures again, with
a recomputation where a target or a deadline has changed. -/
def Obligations.AllocationSharesAndGrades : Prop :=
  (∀ s : State,
     s.recompute.grantSum ≤ s.recompute.effective ∧ s.recompute.effective = s.effective ∧
     ∀ p x, 1 ≤ p → p ≤ s.geo.numPoints → s.recompute.session p = some x →
       x.grant = 0 ∨
       ((s.geo.point p).pmin ≤ x.grant ∧ x.grant ≤ (s.geo.point p).rating ∧
         x.grant ≤ (s.vehicle x.vehicle).acceptance ∧ ∀ a, (s.point p).accept = some a → x.grant ≤ a)) ∧
  (∀ s : State,
     let takes := fun (p : Nat) => ((s.recompute).session p).any (fun x =>
       decide ((s.vehicle x.vehicle).soe < x.target) && !x.incompat)
     let first := fun (a b : Nat) => ((s.recompute).session a).any (fun x => ((s.recompute).session b).any (fun y =>
       decide (x.deadline < y.deadline ∨ (x.deadline = y.deadline ∧ a < b))))
     let points := (List.range s.geo.numPoints).map (· + 1)
     let ahead := fun (p : Nat) => points.filter (fun a => takes a && first a p)
     let fresh := fun (p : Nat) (x : Session) => 1 ≤ p ∧ p ≤ s.geo.numPoints ∧ s.session p = some x ∧
       (s.vehicle x.vehicle).soe < x.target ∧ x.incompat = false ∧
       ∃ y, s.recompute.session p = some y ∧ y.incompat = true
     (∃ given gained : Nat → Nat, ∀ p x, 1 ≤ p → p ≤ s.geo.numPoints → takes p = true → s.recompute.session p = some x →
       let left := s.effective - ((ahead p).map given).sum
       let rest := s.effective - ((points.filter takes).map given).sum - ((ahead p).map gained).sum
       let pmin := (s.geo.point p).pmin
       given p = (if x.q ≤ left then x.q else if pmin ≤ left then left else 0) ∧
       (x.short = true ↔ left < x.q) ∧
       gained p = (if 0 < given p then min (x.c - given p) rest else if pmin ≤ rest then min x.c rest else 0) ∧
       x.grant = given p + gained p) ∧
     (∀ p x, fresh p x → s.recompute.faults.summary &&& (1#32 <<< 12) ≠ 0#32) ∧
     ((∀ p x, ¬ fresh p x) → s.bus.outCount + s.geo.numPoints < Config.outboundMax → s.bus.heldOver = [] →
       s.recompute.faults = s.faults)) ∧
  (∀ s : State,
     let has := fun (p : Nat) (x : Session) => 1 ≤ p ∧ p ≤ s.geo.numPoints ∧ s.session p = some x
     let aims := fun (x : Session) => (min (s.vehicle x.vehicle).capacity (s.requirementOf x.vehicle + s.beh.reserve),
       (s.vehicle x.vehicle).key - s.beh.margin)
     (s.recompute.core = s.core ∧ s.recompute.jobs = s.jobs ∧ ∀ p x, has p x →
       let r := s.vehicle x.vehicle
       let m := if x.deadline ≤ s.clock.minute then 1 else x.deadline - s.clock.minute
       let n := x.target - r.soe
       let c := min (s.geo.point p).rating (match (s.point p).accept with
         | some a => min r.acceptance a
         | none => r.acceptance)
       let pmin := (s.geo.point p).pmin
       ∃ y, s.recompute.session p = some y ∧
         (y.vehicle, y.startSoe, y.base, y.delivered) = (x.vehicle, x.startSoe, x.base, x.delivered) ∧
         (y.requirement, y.target, y.deadline, y.opened) = (x.requirement, x.target, x.deadline, x.opened) ∧
         (x.target ≤ r.soe → y.grade = some .complete ∧ y.grant = 0 ∧ y.capped = false ∧ y.short = false ∧
           y.incompat = false) ∧
         (r.soe < x.target → y.n = n ∧ y.m = m ∧ y.c = c ∧ y.incompat = decide (c < pmin)) ∧
         (r.soe < x.target → c < pmin → y.grant = 0 ∧
           y.grade = some (if x.requirement ≤ r.soe then .onTrack else .unreachable)) ∧
         (r.soe < x.target → pmin ≤ c →
           y.q = min c (max pmin ((6 * n + m - 1) / m)) ∧ (y.capped = true ↔ c * m < 6 * n) ∧
           y.grade = some (if x.requirement ≤ min r.capacity (r.soe + y.grant * m / 6) then .onTrack
             else if x.requirement ≤ min r.capacity (r.soe + c * m / 6) then .waiting else .unreachable)) ∧
         (x.grade ≠ some .unreachable → y.grade = some .unreachable →
           s.recompute.notices.pending &&& (1#16 <<< 6) ≠ 0#16)) ∧
     (s.retargetAll.core = s.core ∧ s.retargetAll.jobs = s.jobs ∧ ∀ p x, has p x →
       ∃ y, s.retargetAll.session p = some y ∧ y.requirement = s.requirementOf x.vehicle ∧ (y.target, y.deadline) = aims x ∧
         (y.vehicle, y.startSoe, y.base, y.delivered, y.opened) =
           (x.vehicle, x.startSoe, x.base, x.delivered, x.opened)) ∧
     ((∀ p x, has p x → (x.target, x.deadline) = aims x) →
       s.retargetAll.bus = s.bus ∧ s.retargetAll.faults = s.faults ∧ s.retargetAll.notices = s.notices ∧
       ∀ p x, has p x → s.retargetAll.session p = some { x with requirement := s.requirementOf x.vehicle }) ∧
     (∀ p x, has p x → (x.target, x.deadline) ≠ aims x → ∃ u : State, s.retargetAll = u.recompute ∧
       u = { s with energy := u.energy } ∧ ∀ q y, has q y → u.session q = some { y with
         requirement := s.requirementOf y.vehicle, target := (aims y).1, deadline := (aims y).2 }))

/-! ### The departure roster (chapter 6) -/

/-- R103, R104, R120, R121: ADD SLOT: the checks in their order, and the new slot in its place in plan order. R16, R104,
R122: AMEND SLOT where no record check finds anything: the checks in their order, and the amended slot in its place; in
the active plan the key of the vehicle that holds it follows the release minute. R17, R68: then, or with a changed
requirement, every lane is recounted; without either nothing in the yard changes. The model's choices in it: log entries
14, 42, 51, 72. -/
def Obligations.SlotsAddedAndAmended : Prop :=
  (∀ (tag : Byte) (body : Bytes) (s : State), s.ready = true → body.length = 12 →
     let n := at16 body 1
     let answer := fun x => answersOnly (.addSlot tag body) s 0x60#8 tag { status := x, body := [] }
     let formed := at16 body 5 ≠ 0 ∧ 0 < at8 body 7 ∧ at8 body 7 < 16 ∧ 0 < at8 body 8 ∧ at8 body 8 < 4
     let ranged := 1 ≤ n ∧ n ≤ 320 ∧ at16 body 3 ≤ 1439 ∧ at16 body 9 ≤ 9999 ∧ 1 ≤ at8 body 11 ∧ at8 body 11 ≤ 4
     let leaves := (s.geo.gate (at8 body 11)).dir = .outward ∨ (s.geo.gate (at8 body 11)).dir = .both
     let first := fun (a b : Slot) => a.release < b.release ∨ (a.release = b.release ∧ a.num < b.num)
     (2 ≤ at8 body 0 → answer .malformed) ∧
     (∀ plan, planOf (at8 body 0) = some plan →
       (¬ formed → answer .malformed) ∧ (formed → ¬ ranged → answer .outOfRange) ∧
       (formed → ranged → 320 ≤ (s.plan plan).length → answer .full) ∧
       (formed → ranged → (s.plan plan).length < 320 → (∃ x ∈ s.plan plan, x.num = n) ∨
         (¬ leaves ∧ s.passes (settingsRecord 1) = true) → answer .conflict) ∧
       (formed → ranged → (s.plan plan).length < 320 → (∀ x ∈ s.plan plan, x.num ≠ n) → leaves →
         s.roster.active.length + s.roster.staged.length < 640 → s.clean = true →
         ∃ t before after y, exec (.addSlot tag body) s = .next t ∧ s.answers t 0x60#8 .done tag [] ∧
           s.plan plan = before ++ after ∧ t.plan plan = before ++ y :: after ∧
           ((s.plan plan).Pairwise first → (t.plan plan).Pairwise first) ∧
           y = {
             num := n
             release := at16 body 3
             duty := at16 body 5
             bodies := BitVec.ofNat 8 (at8 body 7)
             drives := BitVec.ofNat 8 (at8 body 8)
             requirement := at16 body 9
             gate := at8 body 11
             state := .opened
             assigned := none
             last := none
             substituted := false
             uncalled := false
             unconfirmed := false
             call := none
             record := y.record } ∧
           320 ≤ y.record ∧ y.record < 960 ∧ (∀ x ∈ s.roster.active ++ s.roster.staged, x.record ≠ y.record) ∧
           (plan = .active → t.roster.staged = s.roster.staged) ∧ (plan = .staged → t.roster.active = s.roster.active) ∧
           t.roster.ready = s.roster.ready ∧ t.fleet = s.fleet ∧ t.service = s.service ∧ t.yard = s.yard ∧
           t.energy = s.energy ∧ t.bus = s.bus ∧ t.notices = s.notices))) ∧
  (∀ (tag : Byte) (body : Bytes) (s : State) (plan : Plan), s.ready = true → body.length = 13 →
     planOf (at8 body 0) = some plan →
     let n := at16 body 1
     let mask := at8 body 3
     let answer := fun x => answersOnly (.amendSlot tag body) s 0x61#8 tag { status := x, body := [] }
     let formed := mask < 64 ∧ (mask.testBit 1 = true → at16 body 6 ≠ 0) ∧
       (mask.testBit 2 = true → 0 < at8 body 8 ∧ at8 body 8 < 16) ∧ (mask.testBit 3 = true → 0 < at8 body 9 ∧ at8 body 9 < 4)
     let ranged := (mask.testBit 0 = true → at16 body 4 ≤ 1439) ∧ (mask.testBit 4 = true → at16 body 10 ≤ 9999) ∧
       (mask.testBit 5 = true → 1 ≤ at8 body 12 ∧ at8 body 12 ≤ 4)
     let leaves := mask.testBit 5 = true →
       (s.geo.gate (at8 body 12)).dir = .outward ∨ (s.geo.gate (at8 body 12)).dir = .both
     (¬ formed → answer .malformed) ∧
     (formed → slotIn (s.plan plan) n = none → answer .notFound) ∧
     (∀ x, formed → slotIn (s.plan plan) n = some x → s.clean = true →
       let y := { x with
         release := if mask.testBit 0 then at16 body 4 else x.release
         duty := if mask.testBit 1 then at16 body 6 else x.duty
         bodies := if mask.testBit 2 then BitVec.ofNat 8 (at8 body 8) else x.bodies
         drives := if mask.testBit 3 then BitVec.ofNat 8 (at8 body 9) else x.drives
         requirement := if mask.testBit 4 then at16 body 10 else x.requirement
         gate := if mask.testBit 5 then at8 body 12 else x.gate }
       let edits := x.state = .opened ∨ x.state = .assigned
       let suits := ∀ v f, x.assigned = some (v, f) → s.fleetOf v = f →
         accepts y.bodies y.drives (s.vehicle v).body (s.vehicle v).drive = true
       (¬ edits → answer .wrongState) ∧ (edits → ¬ ranged → answer .outOfRange) ∧
       (edits → ranged → ¬ leaves → answer .conflict) ∧ (edits → ranged → mask = 0 → answer .done) ∧
       (∀ v f, edits → ranged → leaves → mask.testBit 2 = true ∨ mask.testBit 3 = true → x.assigned = some (v, f) →
         (s.vehicle? v).isSome = true → s.fleetOf v = f →
         accepts y.bodies y.drives (s.vehicle v).body (s.vehicle v).drive = false → answer .conflict) ∧
       (edits → ranged → leaves → suits → mask ≠ 0 →
         ∃ t, exec (.amendSlot tag body) s = .next t ∧ s.answers t 0x61#8 .done tag [] ∧
           slotIn (t.plan plan) n = some y ∧ (∀ m, m ≠ n → slotIn (t.plan plan) m = slotIn (s.plan plan) m) ∧
           t.plan plan = insertSlot y ((s.plan plan).filter (fun z => z.num != n)) ∧
           (plan = .active → t.roster.staged = s.roster.staged) ∧ (plan = .staged → t.roster.active = s.roster.active) ∧
           t.roster.ready = s.roster.ready ∧ t.service = s.service ∧ t.yard.spots = s.yard.spots ∧
           t.yard.stranded = s.yard.stranded ∧ (∀ l, t.lane l = { s.lane l with inversions := (t.lane l).inversions }) ∧
           (y.release = x.release → y.requirement = x.requirement → t.yard = s.yard) ∧
           (plan = .active → x.assigned ≠ none → y.release ≠ x.release ∨ y.requirement ≠ x.requirement → s.recountedAll t) ∧
           (plan = .staged ∨ x.assigned = none → t.fleet = s.fleet ∧ t.yard = s.yard ∧ t.energy = s.energy ∧
             t.bus = s.bus ∧ t.faults = s.faults ∧ t.notices = s.notices) ∧
           (∀ v f, plan = .active → x.assigned = some (v, f) → (s.vehicle? v).isSome = true →
             (s.vehicle v).assignment = some n → (s.vehicle v).key = x.release →
             t.vehicle v = { s.vehicle v with key := y.release } ∧ (∀ w, w ≠ v → t.vehicle? w = s.vehicle? w)))))

/-- R16, R17, R68, R105, R120, R123, R124: ASSIGN and UNASSIGN where no record check finds anything. R110, R125: CANCEL
SLOT where no record check finds anything. The model's choice in it: log entry 52. -/
def Obligations.SlotsAssignedAndCancelled : Prop :=
  (∀ (tag : Byte) (body : Bytes) (s : State) (plan : Plan), s.ready = true → planOf (at8 body 0) = some plan →
     let n := at16 body 1
     let v := at16 body 3
     let f := at16 body 5
     let others := fun (t : State) =>
       (∀ m, m ≠ n → slotIn (t.plan plan) m = slotIn (s.plan plan) m) ∧ t.roster.ready = s.roster.ready ∧
       (plan = .active → t.roster.staged = s.roster.staged) ∧
       (plan = .staged → t.roster.active = s.roster.active ∧ t.fleet = s.fleet ∧ t.yard = s.yard ∧ t.energy = s.energy ∧
         t.bus = s.bus ∧ t.faults = s.faults ∧ t.notices = s.notices) ∧
       t.service = s.service ∧ t.yard.spots = s.yard.spots ∧
       (∀ l, t.lane l = { s.lane l with inversions := (t.lane l).inversions })
     (body.length = 7 →
       let answer := fun x => answersOnly (.assign tag body) s 0x63#8 tag { status := x, body := [] }
       (f = 0 → answer .malformed) ∧ (f ≠ 0 → 320 ≤ v → answer .outOfRange) ∧
       (f ≠ 0 → v < 320 → slotIn (s.plan plan) n = none → answer .notFound) ∧
       (∀ x, f ≠ 0 → v < 320 → slotIn (s.plan plan) n = some x → s.clean = true →
         let edits := (x.state = .opened ∨ x.state = .assigned) ∧ (s.vehicle? v).isSome = true ∧ s.fleetOf v = f
         let single := (∀ a, x.assigned = some a → a = (v, f)) ∧
           (plan = .active → ∀ m, (s.vehicle v).assignment = some m → m = n) ∧
           (plan = .staged → ∀ y ∈ s.roster.staged, y.num ≠ n → y.assigned ≠ some (v, f)) ∧
           accepts x.bodies x.drives (s.vehicle v).body (s.vehicle v).drive = true
         (¬ edits → answer .wrongState) ∧ (edits → s.damaged v = true → answer .damaged) ∧
         (edits → s.damaged v = false → ¬ single → answer .conflict) ∧
         (edits → s.damaged v = false → single → x.assigned = some (v, f) → answer .done) ∧
         (edits → s.damaged v = false → single → x.assigned = none →
           ∃ t, exec (.assign tag body) s = .next t ∧ s.answers t 0x63#8 .done tag [] ∧ others t ∧
             slotIn (t.plan plan) n = some { x with state := .assigned, assigned := some (v, f), substituted := false } ∧
             (plan = .active → s.recountedAll t ∧ t.vehicle v = { s.vehicle v with assignment := some n, key := x.release } ∧
               ∀ w, w ≠ v → t.vehicle? w = s.vehicle? w)))) ∧
     (body.length = 3 →
       let answer := fun x => answersOnly (.unassign tag body) s 0x64#8 tag { status := x, body := [] }
       (slotIn (s.plan plan) n = none → answer .notFound) ∧
       (∀ x, slotIn (s.plan plan) n = some x → s.clean = true →
         (x.state = .opened → answer .done) ∧ (x.state ≠ .opened → x.state ≠ .assigned → answer .wrongState) ∧
         (∀ w g, x.state = .assigned → x.assigned = some (w, g) → (s.vehicle? w).isSome = true →
           ∃ t, exec (.unassign tag body) s = .next t ∧ s.answers t 0x64#8 .done tag [] ∧ others t ∧
             slotIn (t.plan plan) n = some { x with state := .opened, assigned := none, substituted := false } ∧
             (plan = .active → s.recountedAll t ∧ t.vehicle w = { s.vehicle w with assignment := none, key := 1440 } ∧
               ∀ u, u ≠ w → t.vehicle? u = s.vehicle? u))))) ∧
  (∀ (tag : Byte) (body : Bytes) (s : State) (plan : Plan) (x : Slot), s.ready = true → body.length = 3 →
     planOf (at8 body 0) = some plan → slotIn (s.plan plan) (at16 body 1) = some x → s.clean = true →
     let n := at16 body 1
     let cancelled := { x with
       state := .cancelled
       last := if x.assigned.isSome then x.assigned else x.last
       assigned := none
       call := none }
     let after := fun (t : State) => exec (.cancelSlot tag body) s = .next t ∧ s.answers t 0x62#8 .done tag [] ∧
       slotIn (t.plan plan) n = some cancelled ∧ (∀ m, m ≠ n → slotIn (t.plan plan) m = slotIn (s.plan plan) m) ∧
       t.service = s.service ∧ t.yard.spots = s.yard.spots ∧ t.roster.ready = s.roster.ready
     (x.state = .gone ∨ x.state = .missed ∨ x.state = .cancelled ∨
         (x.state = .called ∧ ∃ v f, x.assigned = some (v, f) ∧ (s.vehicle v).loc = .apron) →
       answersOnly (.cancelSlot tag body) s 0x62#8 tag { status := .wrongState, body := [] }) ∧
     (plan = .staged → x.state = .opened ∨ x.state = .assigned →
       ∃ t, after t ∧ t.roster.active = s.roster.active ∧ t.fleet = s.fleet ∧ t.yard = s.yard ∧ t.energy = s.energy ∧
         t.bus = s.bus ∧ t.faults = s.faults ∧ t.notices = s.notices) ∧
     (plan = .active → x.state = .opened → x.assigned = none →
       ∃ t, after t ∧ t.roster.staged = s.roster.staged ∧ t.fleet = s.fleet ∧ t.yard = s.yard ∧ t.energy = s.energy ∧
         t.bus = s.bus ∧ t.faults = s.faults ∧ t.notices = s.notices) ∧
     (∀ v f, plan = .active → x.assigned = some (v, f) → (s.vehicle? v).isSome = true →
       (x.state = .assigned → x.call = none →
         ∃ t, after t ∧ t.roster.staged = s.roster.staged ∧ s.recountedAll t ∧
           t.vehicle v = { s.vehicle v with assignment := none, key := 1440 } ∧
           (∀ w, w ≠ v → t.vehicle? w = s.vehicle? w) ∧
           (∀ l, t.lane l = { s.lane l with inversions := (t.lane l).inversions })) ∧
       (∀ c l p, x.state = .called → x.call = some c → c.place = .lane l p → (s.vehicle v).loc = .lane l p →
         ∃ t, after t ∧ t.roster.staged = s.roster.staged ∧ s.recountedAll t ∧
           t.vehicle v = { s.vehicle v with state := .parked, assignment := none, key := 1440 } ∧
           (∀ w, w ≠ v → t.vehicle? w = s.vehicle? w) ∧
           (t.lane l).entries = (s.lane l).entries.map (fun e =>
             if e.vehicle = v ∧ e.pos = p then { e with mark := .settled } else e) ∧
           (∀ k, k ≠ l → t.lane k = { s.lane k with inversions := (t.lane k).inversions })) ∧
       (∀ c k, x.state = .called → x.call = some c → c.place = .spot k → (s.vehicle v).loc = .overflow k →
         ∃ t, after t ∧ t.roster.staged = s.roster.staged ∧ s.recountedAll t ∧
           t.vehicle v = { s.vehicle v with state := .inOverflow, assignment := none, key := 1440 } ∧
           (∀ w, w ≠ v → t.vehicle? w = s.vehicle? w) ∧
           (∀ l, t.lane l = { s.lane l with inversions := (t.lane l).inversions }))))

/-- R126: CLEAR STAGED and MARK STAGED, in every mode, whatever the staged plan holds; and a rollover with an empty staged
plan that is READY (R17, R68, R110, R128). -/
def Obligations.StagedPlanClearedOrMarked : Prop :=
  ∀ (tag : Byte) (body : Bytes) (s : State), s.ready = true →
    (body.length = 0 →
      ∃ t, exec (.clearStaged tag body) s = .next t ∧ s.answers t 0x66#8 .done tag [] ∧
        t.roster = { s.roster with staged := [], ready := false } ∧ t.fleet = s.fleet ∧ t.service = s.service ∧
        t.yard = s.yard ∧ t.energy = s.energy ∧ t.bus = s.bus ∧ t.notices = s.notices ∧
        t.faults.capture = s.faults.capture ∧ t.faults.summary = s.faults.summary) ∧
    (body.length = 1 → at8 body 0 < 2 →
      ∃ t, exec (.markStaged tag body) s = .next t ∧ s.answers t 0x67#8 .done tag [] ∧
        t.roster = { s.roster with ready := (if at8 body 0 = 1 then true else false) } ∧ t.fleet = s.fleet ∧
        t.service = s.service ∧ t.yard = s.yard ∧ t.energy = s.energy ∧ t.bus = s.bus ∧ t.notices = s.notices ∧
        t.faults = s.faults) ∧
    (s.clean = true → s.clock.isSet = true → s.clock.minute = 1439 → s.roster.ready = true → s.roster.staged = [] →
      ∃ t, exec .rollover s = .next t ∧ t.roster = { active := [], staged := [], ready := false } ∧ s.recountedAll t ∧
        (s.callsPlain → s.callsSettled t) ∧ ∀ v, (s.vehicle? v).isSome = true → (t.vehicle v).assignment = none ∧ (t.vehicle v).key = 1440)

/-- R17, R68, R105, R127: COMMIT PLAN, where slot numbers and the vehicles named are not repeated in the staged plan. -/
def Obligations.CommitMakesStagedActive : Prop :=
  ∀ (tag : Byte) (body : Bytes) (s : State), s.ready = true → s.clean = true → body.length = 0 →
    ((∃ x ∈ s.roster.active, x.state = .called) →
      answersOnly (.commitPlan tag body) s 0x68#8 tag { status := .wrongState, body := [] }) ∧
    ((∀ x ∈ s.roster.active, x.state ≠ .called) →
      s.roster.staged.Pairwise (fun x y => x.num ≠ y.num ∧ (x.assigned = none ∨ x.assigned.map (·.1) ≠ y.assigned.map (·.1))) →
      let holds := fun (x : Slot) => ∃ v f, x.assigned = some (v, f) ∧ (s.vehicle? v).isSome = true ∧ s.fleetOf v = f ∧
        s.damaged v = false ∧ accepts x.bodies x.drives (s.vehicle v).body (s.vehicle v).drive = true
      ∃ t opened, exec (.commitPlan tag body) s = .next t ∧
        s.answers t 0x68#8 .done tag (be16 s.roster.staged.length ++ be16 opened) ∧
        t.roster.staged = [] ∧ t.roster.ready = false ∧ t.roster.active.length = s.roster.staged.length ∧
        opened = (t.roster.active.filter (fun y => y.state == .opened)).length -
          (s.roster.staged.filter (fun y => y.state == .opened)).length ∧
        (∀ (i : Nat) (x : Slot), s.roster.staged[i]? = some x →
          (x.state ≠ .assigned ∨ holds x → t.roster.active[i]? = some x) ∧
          (x.state = .assigned → ¬ holds x →
            t.roster.active[i]? = some { x with state := .opened, assigned := none, substituted := false })) ∧
        (∀ x ∈ s.roster.staged, ∀ v f, x.state = .assigned → holds x → x.assigned = some (v, f) →
          t.vehicle v = { s.vehicle v with assignment := some x.num, key := x.release }) ∧
        (∀ v, (s.vehicle? v).isSome = true →
          (∀ x ∈ s.roster.staged, x.state = .assigned → holds x → x.assigned ≠ some (v, s.fleetOf v)) →
          t.vehicle v = { s.vehicle v with assignment := none, key := 1440 }) ∧
        (∀ v, s.vehicle? v = none → t.vehicle? v = none) ∧ t.service = s.service ∧ t.yard.spots = s.yard.spots ∧
        t.yard.stranded = s.yard.stranded ∧ (∀ l, t.lane l = { s.lane l with inversions := (t.lane l).inversions }) ∧
        s.recountedAll t)

/-- R107, R109, R114: CALL NOW where no record check finds anything. -/
def Obligations.CallNowCalls : Prop :=
  ∀ (tag : Byte) (body : Bytes) (s : State), s.ready = true → s.clean = true → body.length = 2 →
    let n := at16 body 0
    let answer := fun x bytes => answersOnly (.callNow tag body) s 0x69#8 tag { status := x, body := bytes }
    (s.mode = .census ∨ s.mode = .configure ∨ s.clock.isSet = false → answer .wrongState []) ∧
    (s.mode = .running ∨ s.mode = .safe → s.clock.isSet = true →
      (s.slot n = none → answer .notFound []) ∧
      (∀ x, s.slot n = some x → x.state ≠ .assigned → answer .wrongState []) ∧
      (∀ x v f, s.slot n = some x → x.state = .assigned →
        x.assigned = some (v, f) → (s.vehicle? v).isSome = true →
        let r := s.vehicle v
        let here := r.state = .parked ∨ r.state = .inOverflow
        let clear := s.callable v = true
        let held := r.hold ≠ none
        let suited := accepts x.bodies x.drives r.body r.drive = true
        (¬ here → answer .wrongState [1#8]) ∧ (here → ¬ clear → answer .wrongState [2#8]) ∧
        (here → clear → held → answer .wrongState [3#8]) ∧
        (here → clear → ¬ held → s.damaged v = true → answer .wrongState [4#8]) ∧
        (here → clear → ¬ held → s.damaged v = false → ¬ suited → answer .wrongState [5#8]) ∧
        (∀ place, clear → ¬ held → s.damaged v = false → suited →
          (∃ l p, r.state = .parked ∧ r.loc = .lane l p ∧ place = .lane l p) ∨
            (∃ k, r.state = .inOverflow ∧ r.loc = .overflow k ∧ place = .spot k) →
          ∃ t, exec (.callNow tag body) s = .next t ∧ s.answers t 0x69#8 .done tag [] ∧
            t.slot n = some { x with
              state := .called
              call := some {
                time := s.now
                deadline := s.now + s.beh.callTimeout
                place := place
                node := s.placeNode place
                cleared := false } } ∧
            (∀ m, m ≠ n → t.slot m = s.slot m) ∧ t.roster.staged = s.roster.staged ∧
            t.vehicle v = { r with state := .departing } ∧ (∀ w, w ≠ v → t.vehicle? w = s.vehicle? w) ∧
            (∀ l p, place = .lane l p →
              t.lane l = { s.lane l with entries := (s.lane l).entries.map (fun e =>
                if e.vehicle = v ∧ e.pos = p then { e with mark := .leavingCall } else e) } ∧
              (∀ k, k ≠ l → t.lane k = s.lane k)) ∧
            (∀ k, place = .spot k → t.yard = s.yard) ∧ t.yard.spots = s.yard.spots ∧ t.service = s.service ∧
            (∀ p, s.sessionPoint v = some p → t.session p = none) ∧
            (s.sessionPoint v = none → s.bus.outFull = false → s.bus.heldOver = [] →
              ({ dest := s.placeNode place, source := s.geo.serviceAddr, urgent := false,
                 body := .call place r.fleet x.gate n } : OutMsg) ∈ t.bus.normal))))

/-- R106, R107, R108, R111: whom an attempt at a slot calls: its own vehicle while that is eligible, else the first
substitute by R111's ranks, else nobody. -/
def Obligations.AttemptPicksByRank : Prop :=
  ∀ (s : State) (x : Slot),
    let eligible := fun v => (s.vehicle? v).isSome = true ∧
      ((s.vehicle v).state = .parked ∨ (s.vehicle v).state = .inOverflow) ∧ s.callable v = true ∧
      (s.vehicle v).hold = none ∧ s.damaged v = false ∧
      accepts x.bodies x.drives (s.vehicle v).body (s.vehicle v).drive = true ∧
      ((s.vehicle v).drive = .battery → x.requirement ≤ (s.vehicle v).soe)
    let substitutes := fun w => (∀ f, x.assigned ≠ some (w, f)) ∧ eligible w ∧
      ((s.vehicle w).assignment = none ∨ ∃ m y, (s.vehicle w).assignment = some m ∧ s.slot m = some y ∧
        y.state = .assigned ∧ x.release < y.release)
    let nearer := fun w u =>
      (∃ l k p q, (s.vehicle w).loc = .lane l p ∧ (s.vehicle u).loc = .lane k q ∧ l < k) ∨
      (∃ l p k, (s.vehicle w).loc = .lane l p ∧ (s.vehicle u).loc = .overflow k) ∨
      (∃ k j, (s.vehicle w).loc = .overflow k ∧ (s.vehicle u).loc = .overflow j ∧ k < j)
    let before := fun w u =>
      ((s.vehicle w).assignment = none ∧ (s.vehicle u).assignment ≠ none) ∨
      ((s.vehicle w).assignment = none ∧ (s.vehicle u).assignment = none ∧ nearer w u) ∨
      (∃ m k y z, (s.vehicle w).assignment = some m ∧ (s.vehicle u).assignment = some k ∧ s.slot m = some y ∧
        s.slot k = some z ∧ (z.release < y.release ∨ (z.release = y.release ∧ k < m)))
    (∀ v f, x.assigned = some (v, f) → eligible v → s.pick x = .own v) ∧
    ((∀ v f, x.assigned = some (v, f) → ¬ eligible v) →
      (∀ w, substitutes w → (∀ u, substitutes u → u = w ∨ before w u) → s.pick x = .sub w) ∧
      ((∀ w, ¬ substitutes w) → s.pick x = .nobody))

/-- R17, R68, R103, R106, R109, R112: an attempt pass over one due slot, or over two where the second is the slot that the
substitute comes from: the call, the swap with its displaced vehicle, SUBSTITUTION-MADE; and no pass outside RUNNING. -/
def Obligations.AttemptPassCallsAndSwaps : Prop :=
  ∀ (s : State) (x : Slot) (place : Place) (skip : List Nat),
    let n := x.num
    let t := s.attemptPass []
    let stands := fun (v : Nat) =>
      (∃ l p, (s.vehicle v).state = .parked ∧ (s.vehicle v).loc = .lane l p ∧ place = .lane l p) ∨
      (∃ k, (s.vehicle v).state = .inOverflow ∧ (s.vehicle v).loc = .overflow k ∧ place = .spot k)
    let call : Call :=
      { time := s.now, deadline := s.now + s.beh.callTimeout, place := place, node := s.placeNode place, cleared := false }
    let dues := s.roster.active.filter s.due
    let lanes := fun (v : Nat) => ∀ l, t.lane l = { s.lane l with
      entries := (match place with
        | .lane k p => if l = k then (s.lane l).entries.map (fun e =>
            if e.vehicle = v ∧ e.pos = p then { e with mark := .leavingCall } else e) else (s.lane l).entries
        | .spot _ => (s.lane l).entries)
      inversions := (t.lane l).inversions }
    let frame := t.core = s.core ∧ t.service = s.service ∧ t.yard.spots = s.yard.spots ∧
      t.yard.stranded = s.yard.stranded ∧ t.roster.staged = s.roster.staged ∧ t.roster.ready = s.roster.ready
    (s.mode ≠ .running → s.attemptPass skip = s) ∧
    (s.mode = .running → dues = [] → s.attemptPass skip = s) ∧
    (∀ v, s.mode = .running → s.slot n = some x → (s.vehicle? v).isSome = true → dues = [x] → s.pick x = .own v →
      stands v →
      frame ∧ lanes v ∧ t.slot n = some { x with state := .called, call := some call } ∧
      (∀ m, m ≠ n → t.slot m = s.slot m) ∧ t.vehicle v = { s.vehicle v with state := .departing } ∧
      (∀ u, u ≠ v → t.vehicle? u = s.vehicle? u)) ∧
    (∀ w, s.mode = .running → s.slot n = some x → s.pick x = .sub w → stands w →
      (∀ v f, x.assigned = some (v, f) → (s.vehicle? v).isSome = true) →
      let swapped := t.slot n = some { x with
          state := .called
          assigned := some (w, s.fleetOf w)
          substituted := true
          call := some call } ∧
        t.vehicle w = { s.vehicle w with state := .departing, assignment := some n, key := x.release } ∧
        s.recountedAll t ∧ t.notices.pending &&& (1#16 <<< 10) ≠ 0#16
      ((s.vehicle w).assignment = none → dues = [x] →
        frame ∧ lanes w ∧ swapped ∧ (∀ k, k ≠ n → t.slot k = s.slot k) ∧
        (∀ v f, x.assigned = some (v, f) → t.vehicle v = { s.vehicle v with assignment := none, key := 1440 }) ∧
        (∀ u, u ≠ w → (∀ f, x.assigned ≠ some (u, f)) → t.vehicle? u = s.vehicle? u)) ∧
      (∀ m y, (s.vehicle w).assignment = some m → s.slot m = some y →
        let displaced := ∃ v f, x.assigned = some (v, f) ∧
          accepts y.bodies y.drives (s.vehicle v).body (s.vehicle v).drive = true
        dues = [x] ∨ (dues = [x, y] ∧ displaced) →
        frame ∧ lanes w ∧ swapped ∧ (∀ k, k ≠ n → k ≠ m → t.slot k = s.slot k) ∧
        (∀ v f, displaced → x.assigned = some (v, f) →
          t.slot m = some { y with state := .assigned, assigned := some (v, f), substituted := true } ∧
          t.vehicle v = { s.vehicle v with assignment := some m, key := y.release }) ∧
        (¬ displaced →
          t.slot m = some { y with state := .opened, assigned := none, substituted := false } ∧
          ∀ v f, x.assigned = some (v, f) → t.vehicle v = { s.vehicle v with assignment := none, key := 1440 }) ∧
        (∀ u, u ≠ w → (∀ f, x.assigned ≠ some (u, f)) → t.vehicle? u = s.vehicle? u)))

/-- R17, R68, R110, R113, R118: a call that times out, before its berth has cleared and after; a slot whose grace has
passed, in a mode without attempts or where its attempt would call nobody; and neither before its time. The model's choice
in it: log entry 15. -/
def Obligations.CallsTimeOutGracePasses : Prop :=
  ∀ (s : State) (n : Nat) (x : Slot), s.clean = true → s.slot n = some x →
    let frame := fun (t : State) (v : Nat) => t.core = s.core ∧ (∀ m, m ≠ n → t.slot m = s.slot m) ∧
      t.roster.staged = s.roster.staged ∧ t.roster.ready = s.roster.ready ∧
      (∀ w, w ≠ v → t.vehicle? w = s.vehicle? w) ∧ t.service = s.service ∧ t.yard.spots = s.yard.spots
    (x.state ≠ .called ∨ s.clock.isSet = false ∨ (∃ c, x.call = some c ∧ s.now < c.deadline) →
      exec (.callTimeout n) s = .next s) ∧
    (∀ c v f, x.state = .called → x.call = some c → x.assigned = some (v, f) → (s.vehicle? v).isSome = true →
      s.clock.isSet = true → c.deadline ≤ s.now →
      (c.cleared = false →
        ∃ t, exec (.callTimeout n) s = .next t ∧ frame t v ∧
          t.slot n = some { x with state := .assigned, call := none } ∧
          (∀ l p, c.place = .lane l p → t.vehicle v = { s.vehicle v with state := .parked, loc := .lane l p } ∧
            (t.lane l).entries = (s.lane l).entries.map (fun e =>
              if e.vehicle = v ∧ e.pos = p then { e with mark := .settled } else e) ∧
            (∀ k, k ≠ l → t.lane k = s.lane k)) ∧
          (∀ k, c.place = .spot k → t.vehicle v = { s.vehicle v with state := .inOverflow, loc := .overflow k } ∧
            t.yard = s.yard) ∧
          t.notices.pending &&& (1#16 <<< 8) ≠ 0#16 ∧
          (s.bus.outFull = false → s.bus.heldOver = [] →
            ({ dest := c.node, source := s.geo.serviceAddr, urgent := true,
               body := .cancelCall c.place n } : OutMsg) ∈ t.bus.urgent)) ∧
      (c.cleared = true →
        ∃ t, exec (.callTimeout n) s = .next t ∧ frame t v ∧
          t.slot n = some { x with
            state := .gone
            last := some (v, f)
            assigned := none
            call := none
            unconfirmed := true } ∧
          t.vehicle v = { s.vehicle v with state := .out, loc := .absent, assignment := none, key := 1440 } ∧
          (∀ l, t.lane l = { s.lane l with inversions := (t.lane l).inversions }) ∧ s.recountedAll t ∧
          t.faults.summary &&& (1#32 <<< 9) ≠ 0#32)) ∧
    (s.clock.isSet = false ∨ (x.state ≠ .opened ∧ x.state ≠ .assigned) ∨ s.clock.minute ≤ x.release + s.beh.grace →
      exec (.graceExpiry n) s = .next s) ∧
    (s.clock.isSet = true → x.release + s.beh.grace < s.clock.minute →
      s.mode ≠ .running ∨ s.pick x = .nobody →
      (x.state = .opened → x.assigned = none →
        ∃ t, exec (.graceExpiry n) s = .next t ∧ t.slot n = some { x with state := .missed, call := none } ∧
          (∀ m, m ≠ n → t.slot m = s.slot m) ∧ t.fleet = s.fleet ∧ t.service = s.service ∧ t.yard = s.yard ∧
          t.energy = s.energy ∧ t.bus = s.bus ∧ t.faults = (s.report .d2 n).faults ∧
          t.notices.pending = (s.report .d2 n).notices.pending ||| (1#16 <<< 9)) ∧
      (∀ v f, x.state = .assigned → x.assigned = some (v, f) → (s.vehicle? v).isSome = true →
        ∃ t, exec (.graceExpiry n) s = .next t ∧ frame t v ∧
          t.slot n = some { x with state := .missed, last := some (v, f), assigned := none, call := none } ∧
          t.vehicle v = { s.vehicle v with assignment := none, key := 1440 } ∧
          (∀ l, t.lane l = { s.lane l with inversions := (t.lane l).inversions }) ∧ s.recountedAll t ∧
          t.faults.summary &&& (1#32 <<< 14) ≠ 0#32 ∧ t.notices.pending &&& (1#16 <<< 9) ≠ 0#16))

/-! ### The yard bus (chapter 7) -/

/-- R95, R141, R142, R143, R144, R146, R147: the part begins sending the head of its queue, and its message is
acknowledged or not, where the record of the SERVICE address has no error to be found; no message that waits is lost. The
model's choices in it: log entries 13, 18, 23, 24, 25. -/
def Obligations.MessagesSent : Prop :=
  ∀ (s : State) (m : OutMsg), s.startup = false →
    let heard := fun (t : State) (yes : Bool) => ∀ a, t.bus.nodes.get? a =
      if a = m.dest ∧ yes = true then (s.bus.nodes.get? a).map (fun r => { r with live := .live, heard := true })
      else s.bus.nodes.get? a
    let left := fun (t : State) => t.core = { s.core with iface := .idle, inFlight := none, nodes := t.bus.nodes } ∧
      t.jobs = s.jobs ∧ s.keepsQueue t
    ((s.bus.iface = .sending ∨ s.bus.freeSeen = false ∨ (s.bus.urgent = [] ∧ s.bus.normal = [])) →
      exec .sendStart s = .next s) ∧
    (∀ urgent normal, s.bus.iface ≠ .sending → s.bus.freeSeen = true →
      (s.bus.urgent = m :: urgent ∧ s.bus.normal = normal) ∨
        (s.bus.urgent = [] ∧ urgent = [] ∧ s.bus.normal = m :: normal) →
      ∃ t, exec .sendStart s = .next t ∧
        t = { s with
          bus := { s.bus with
            iface := .sending
            urgent := urgent
            normal := normal
            inFlight := some m
            receiving := none
            answer := none }
          energy := t.energy } ∧
        (∀ p kw, m.body = .setpoint p kw → t.energy.budget = s.energy.budget ∧
          t.point p = { s.point p with held := (s.point p).held.map (fun h => max kw h) } ∧
          ∀ q, q ≠ p → t.point q = s.point q) ∧
        ((∀ p kw, m.body ≠ .setpoint p kw) → t.energy = s.energy)) ∧
    (s.bus.iface ≠ .sending → exec .sendAcknowledged s = .next s ∧ ∀ a, exec (.sendNotAcknowledged a) s = .next s) ∧
    (s.bus.iface = .sending → s.bus.inFlight = some m → s.passes (settingsRecord 1) = true →
      (m.body ≠ .poll →
        ∃ t, exec .sendAcknowledged s = .next t ∧ left t ∧ heard t true ∧ t.faults = s.faults ∧ t.notices = s.notices ∧
          (∀ p kw, m.body = .setpoint p kw → t.point p = { s.point p with held := some kw } ∧
            ∀ q, q ≠ p → t.point q = s.point q) ∧
          ((∀ p kw, m.body ≠ .setpoint p kw) → t.energy = s.energy)) ∧
      (m.body = .poll →
        ∃ t, exec .sendAcknowledged s = .next t ∧ left t ∧ t.energy = s.energy ∧ t.faults = s.faults ∧
          t.notices = s.notices ∧ ∀ a, t.bus.nodes.get? a = if a = m.dest then
            (s.bus.nodes.get? a).map (fun r => { r with live := .live, heard := true, poll := false })
            else s.bus.nodes.get? a) ∧
      (∀ acked, m.body ≠ .poll → (∀ mode, m.body ≠ .yardState mode) →
        ∃ t, exec (.sendNotAcknowledged acked) s = .next t ∧ left t ∧ heard t acked ∧
          t.faults = (s.report .q2 m.dest).faults ∧ t.notices = (s.report .q2 m.dest).notices ∧
          (∀ p kw, m.body = .setpoint p kw → t.point p = { s.point p with held := none, issued := none } ∧
            ∀ q, q ≠ p → t.point q = s.point q) ∧
          ((∀ p kw, m.body ≠ .setpoint p kw) → t.energy = s.energy)) ∧
      (∀ acked mode, m.body = .yardState mode →
        exec (.sendNotAcknowledged acked) s = exec .sendAcknowledged s) ∧
      (∀ acked r, m.body = .poll → s.bus.nodes.get? m.dest = some r → s.clean = true →
        ∃ t, exec (.sendNotAcknowledged acked) s = .next t ∧
          t.core = { s.core with iface := .idle, inFlight := none, nodes := t.bus.nodes } ∧ t.jobs = s.jobs ∧
          t.bus.nodes.get? m.dest = some { live := .silent, heard := r.heard || acked, poll := false } ∧
          (∀ a, a ≠ m.dest → t.bus.nodes.get? a = s.bus.nodes.get? a) ∧
          (r.live = .silent → s.keepsQueue t ∧ t.faults = s.faults ∧ t.notices = s.notices ∧ t.energy = s.energy) ∧
          (r.live ≠ .silent → t.faults.summary &&& (1#32 <<< 17) ≠ 0#32 ∧
            (∀ p, 1 ≤ p → p ≤ s.geo.numPoints → s.geo.cabinetNode (s.geo.point p).cabinet = m.dest →
              (t.point p).state = .offline ∧ (t.point p).counter = 0 ∧ (t.point p).accept = none ∧
              (t.point p).held = none ∧ (t.point p).session = none ∧ (t.point p).stop = (s.point p).stop) ∧
            ((∀ p, 1 ≤ p → p ≤ s.geo.numPoints → s.geo.cabinetNode (s.geo.point p).cabinet ≠ m.dest) →
              s.keepsQueue t ∧ t.energy = s.energy ∧ t.faults = (s.report .q3 m.dest).faults))))

/-- R27, R44, R133, R134, R136, R138, R140, R146, R150, R194: a report whose every byte is acknowledged, a GATE READ
received as bytes, a message that is refused at one of its bytes, and another party's traffic, where no record check
finds anything. A message that the part is receiving is judged by what its address was when it was acknowledged. A
report of an undefined event goes once it stands at the head of the queue (log entry 60). R137, R140, R145, R150: what
interrupts the part's own sending and answering: a lost arbitration, with what the address of the message that won is
to the part, the stuck-bus timeout, an answer byte that is not acknowledged. The model's choices in it: log entries
13, 18 to 22, 70. -/
def Obligations.MessagesReceivedAndInterrupted : Prop :=
  (∀ (s : State), s.startup = false → s.bus.iface ≠ .sending → s.clean = true →
     let undefined := fun (x : InMsg) => (x.kind == 0x12#8 || x.kind == 0x13#8) &&
       (at8 x.payload 1 == 0 || decide (5 < at8 x.payload 1))
     let watching : State :=
       { s with bus := { s.bus with iface := .watching, freeSeen := true, receiving := none, answer := none } }
     (∀ (dest src kind : Byte) (payload : Bytes),
       let head := [dest, src, kind, BitVec.ofNat 8 payload.length] ++ payload
       let msg := head ++ [checkByte head]
       let role := fun (r : Role) (now : Prop) => match s.bus.receiving with
         | some (d, roles) => if d = dest then r ∈ roles else now
         | none => now
       let gate := role .gate (dest.toNat = s.geo.gateAddr)
       let service := role .service (dest.toNat = s.geo.serviceAddr)
       let energy := role .energy (dest.toNat = s.geo.energyAddr)
       let broadcast := role .broadcast (dest.toNat = 0)
       let own := service ∨ energy ∨ broadcast
       let queues := (service ∧ (kind = 0x12 ∨ kind = 0x13 ∨ kind = 0x14)) ∨
         (energy ∧ (kind = 0x15 ∨ kind = 0x16)) ∨ (broadcast ∧ kind = 0x16)
       let sized := payload.length = if kind = 0x11 ∨ kind = 0x12 ∨ kind = 0x15 then 6 else 2
       (queues → sized → s.bus.inbound.length < 16 → 1 ≤ src.toNat → src.toNat ≤ 62 →
         let queue := s.bus.inbound ++ [{ dest := dest, source := src, kind := kind, payload := payload }]
         exec (.reportReceived msg) s = .next { s.hearing src with
           bus := { (s.hearing src).bus with iface := .idle, inbound := queue.dropWhile undefined } }) ∧
       (gate → kind = 0x11 → sized → 1 ≤ src.toNat → src.toNat ≤ 62 →
         (at8 payload 1 = 1 → exec (.reportReceived msg) s =
           exec (.gateReadIn src (BitVec.ofNat 8 (at8 payload 0)) (BitVec.ofNat 32 (at32 payload 2))) s) ∧
         (at8 payload 1 = 2 → exec (.reportReceived msg) s =
           exec (.gateReadOut src (BitVec.ofNat 8 (at8 payload 0)) (BitVec.ofNat 32 (at32 payload 2))) s) ∧
         (at8 payload 1 = 0 ∨ 3 ≤ at8 payload 1 → exec (.reportReceived msg) s =
           .next ((s.hearing src).answering src { outcome := .inspect, kind := .none, number := 0, fleet := 0 }))) ∧
       ((¬ gate ∧ (¬ own ∨ 16 ≤ s.bus.inbound.length)) ∨ src.toNat = 0 ∨ 62 < src.toNat ∨
           (¬ queues ∧ ¬ (gate ∧ kind = 0x11)) ∨ ¬ sized →
         exec (.messageRefused msg) s = .next watching)) ∧
     (∀ msg : Bytes, msg.foldl (· + ·) 0#8 ≠ 0#8 ∨ msg.length < 5 → exec (.messageRefused msg) s = .next watching) ∧
     exec .otherPartyTraffic s = .next watching ∧
     exec .busSeenFree s = .next { s with bus := { s.bus with freeSeen := true } }) ∧
  (∀ (s : State),
     let returned := fun (b : Bus) => match s.bus.inFlight with
       | none => b
       | some m => if m.urgent then { b with urgent := m :: s.bus.urgent, inFlight := none }
         else { b with normal := m :: s.bus.normal, inFlight := none }
     (∀ (m : OutMsg) (dest : Byte), s.bus.iface = .sending → s.bus.inFlight = some m → s.passes (settingsRecord 1) = true →
       let own := dest.toNat = s.geo.gateAddr ∨ ((dest.toNat = s.geo.serviceAddr ∨ dest.toNat = s.geo.energyAddr ∨
         dest.toNat = 0) ∧ s.bus.inbound.length < 16)
       (dest.toNat ≤ m.dest → own → ∃ roles : List Role, exec (.arbitrationLost dest) s =
           .next { s with bus := returned { s.bus with iface := .receiving, receiving := some (dest, roles) } } ∧
         (.gate ∈ roles ↔ dest.toNat = s.geo.gateAddr) ∧ (.service ∈ roles ↔ dest.toNat = s.geo.serviceAddr) ∧
         (.energy ∈ roles ↔ dest.toNat = s.geo.energyAddr) ∧ (.broadcast ∈ roles ↔ dest.toNat = 0)) ∧
       (dest.toNat ≤ m.dest → ¬ own → exec (.arbitrationLost dest) s =
         .next { s with bus := returned { s.bus with iface := .watching } }) ∧
       (m.dest < dest.toNat → exec (.arbitrationLost dest) s = .next s)) ∧
     (s.startup = true ∨ s.bus.iface = .idle → exec .stuckBusTimeout s = .next s) ∧
     (s.startup = false → s.bus.iface ≠ .idle →
       let freed := returned { s.bus with iface := .idle, freeSeen := false, receiving := none, answer := none }
       (s.bus.answer = none → exec .stuckBusTimeout s = .next { s.report .q1 0 with bus := freed }) ∧
       (∀ node a, s.bus.answer = some (node, a) →
         exec .stuckBusTimeout s = .next { (s.report .q1 0).report .q2 node.toNat with bus := freed })) ∧
     (s.bus.iface ≠ .answering → exec .gateAnswerLost s = .next s) ∧
     (∀ node a, s.bus.iface = .answering → s.bus.answer = some (node, a) → exec .gateAnswerLost s =
       .next { s.report .q2 node.toNat with bus := { s.bus with iface := .watching, answer := none } }))

/-- R95, R141, R142, R143: a message offered to the outbound queue, in every state with no POLL pending: what it replaces,
which held-over messages join before it, and what is evicted, held over or lost where the queue is full. R94, R99,
R142: the SETPOINT that follows a recomputation at the one point that needs it, with its class, where the queue has a
free place; a grant equal to the issued one queues nothing. The model's choice in it: log entry 26. -/
def Obligations.OutboundQueueAndSetpoints : Prop :=
  (∀ (s : State) (m : OutMsg), (∀ r ∈ s.bus.nodes.rows, r.2.poll = false) →
     let t := s.enqueue m
     let staleHeld := fun (x : OutMsg) => match m.body, x.body with
       | .setpoint p _, .setpoint q _ => p == q
       | .yardState _, .yardState _ => true
       | _, _ => false
     let stale := fun (x : OutMsg) => match m.body, x.body with
       | .cancelCall _ n, .call _ _ _ k => n == k
       | _, _ => staleHeld x
     let normal := s.bus.normal.filter (fun x => !stale x)
     let held := s.bus.heldOver.filter (fun x => !staleHeld x)
     let sent := if s.bus.inFlight = none then 0 else 1
     let used := (s.bus.urgent.filter (fun x => !stale x)).length + normal.length + sent
     let urgent := s.bus.urgent.filter (fun x => !stale x) ++ held.take (32 - used)
     let waits := held.drop (32 - used)
     let full := 32 ≤ urgent.length + normal.length + sent
     let becomes := fun (urgent normal heldOver : List OutMsg) =>
       t.bus = { s.bus with urgent := urgent, normal := normal, heldOver := heldOver } ∧ t.core = s.core ∧ t.jobs = s.jobs
     let calm := t.energy = s.energy ∧ t.faults = s.faults ∧ t.notices = s.notices
     let lost := fun (x : OutMsg) => t.faults = (s.report .q2 x.dest).faults ∧ t.notices = (s.report .q2 x.dest).notices ∧
       (∀ p kw, x.body = .setpoint p kw → t.energy.budget = s.energy.budget ∧
         t.point p = { s.point p with issued := none } ∧ ∀ q, q ≠ p → t.point q = s.point q) ∧
       ((∀ p kw, x.body ≠ .setpoint p kw) → t.energy = s.energy)
     (¬ full → m.urgent = true → becomes (urgent ++ [m]) normal waits ∧ calm) ∧
     (¬ full → m.urgent = false → becomes urgent (normal ++ [m]) waits ∧ calm) ∧
     (full → m.urgent = false → becomes urgent normal waits ∧ lost m) ∧
     (∀ older young, full → m.urgent = true → normal = older ++ [young] →
       becomes (urgent ++ [m]) older waits ∧ (young.body = .poll → calm) ∧ (young.body ≠ .poll → lost young)) ∧
     (full → m.urgent = true → normal = [] →
       (∀ place n, m.body = .cancelCall place n → becomes urgent [] waits ∧ lost m) ∧
       ((∃ p kw, m.body = .setpoint p kw) ∨ (∃ mode, m.body = .yardState mode) →
         becomes urgent [] (waits ++ [m]) ∧ calm))) ∧
  (∀ (s : State) (p : Nat), 1 ≤ p → p ≤ s.geo.numPoints → (∀ r ∈ s.bus.nodes.rows, r.2.poll = false) →
     s.bus.outFull = false → s.bus.heldOver = [] →
     let calm := fun (q : Nat) => (∀ x, s.session q = some x → (s.point q).issued = some x.grant) ∧
       (s.session q = none → (s.point q).cond = none ∨ (s.point q).issued ≠ none)
     (∀ q, 1 ≤ q → q ≤ s.geo.numPoints → q ≠ p → calm q) →
     let t := s.issueSetpoints
     let others := fun (l : List OutMsg) => l.filter (fun m => match m.body with | .setpoint q _ => q != p | _ => true)
     let queued := fun (kw : Nat) (urgent : Bool) =>
       let m : OutMsg := { dest := s.geo.cabinetNode (s.geo.point p).cabinet, source := s.geo.energyAddr, urgent := urgent,
                           body := .setpoint p kw }
       t = { s with energy := t.energy, bus := t.bus } ∧ t.energy.budget = s.energy.budget ∧
       t.point p = { s.point p with issued := some kw } ∧ (∀ q, q ≠ p → t.point q = s.point q) ∧
       t.bus = { s.bus with
         urgent := others s.bus.urgent ++ (if urgent then [m] else [])
         normal := others s.bus.normal ++ (if urgent then [] else [m]) }
     (calm p → t = s) ∧
     (∀ x, s.session p = some x → (s.point p).issued ≠ some x.grant →
       ((s.point p).held = none → queued x.grant true) ∧
       (∀ h, (s.point p).held = some h → queued x.grant (decide (x.grant < h)))) ∧
     (s.session p = none → (s.point p).cond ≠ none → (s.point p).issued = none → queued 0 true))

/-! ### The part: reads, clock, settings, notices, faults, modes (chapters 8 to 10) -/

/-- R33, R49, R107, R129, R148, R162, R168, R185, R186, R189, R190, R191, R192: the reads that name no vehicle, lane or
point, where no record check finds anything: what they answer, byte by byte, and that they change nothing. Bytes that
describe an absent thing, a retired occupant or a damaged slot have no stated value (log entries 9, 62); the Kind byte
of a wash lane is log entry 63. The model's choices in it: log entries 1, 4, 6, 49, 54, 78. -/
def Obligations.PartReadsChangeNothing : Prop :=
  ∀ (tag : Byte) (body : Bytes) (s : State), s.ready = true → s.clean = true →
    let reads := fun (c : Instr) (code : Byte) (bytes : Bytes) => answersOnly c s code tag { status := .done, body := bytes }
    let bit := fun (b : Bool) => be8 (if b then 1 else 0)
    let open' := fun (n first : Nat) => (List.range n).map (fun i => Config.unstatedByte (first + i))
    let occupant := fun (x : Option Nat) => match x with
      | none => [0xFF#8, 0xFF#8, 0#8, 0#8] ++ open' 1 0
      | some v => match s.vehicle? v with
        | some r => be16 v ++ be16 r.fleet ++ be8 (stateCode r.state)
        | none => be16 v ++ [0#8, 0#8] ++ open' 1 0
    let named := fun (x : Option (Nat × Nat)) => match x with
      | some (i, f) => be16 i ++ be16 f
      | none => [0xFF#8, 0xFF#8, 0#8, 0#8]
    let slotState := fun (x : SlotState) => match x with
      | .opened => [0#8] | .assigned => [1#8] | .called => [2#8] | .gone => [3#8] | .missed => [4#8] | .cancelled => [5#8]
    let why := fun (v : Nat) (x : Slot) =>
      let r := s.vehicle v
      if r.state ≠ .parked ∧ r.state ≠ .inOverflow then [1#8]
      else if s.callable v = false then [2#8]
      else if r.hold ≠ none then [3#8]
      else if s.damaged v = true then [4#8]
      else if accepts x.bodies x.drives r.body r.drive = false then [5#8]
      else if r.drive = .battery ∧ r.soe < x.requirement then [6#8] else [0#8]
    (body.length = 0 →
      reads (.readClock tag body) 0x80#8
        (bit s.clock.isSet ++ be16 s.clock.day ++ be16 s.clock.minute ++ be8 s.clock.seconds) ∧
      reads (.readNotices tag body) 0x85#8
        (be16 s.notices.pending.toNat ++ be16 s.notices.enables.toNat ++ be16 s.notices.urgents.toNat ++
          be8 ((if s.attnU then 1 else 0) + (if s.attnR then 2 else 0))) ∧
      reads (.readFault tag body) 0x88#8
        ((match s.faults.capture with
            | some c => [1#8] ++ be8 c.code.num ++ be8 c.code.cls ++ be16 c.subject ++ be32 (c.time.getD 0xFFFFFFFF)
            | none => [0#8] ++ open' 4 24 ++ be32 0xFFFFFFFF) ++
          be32 s.faults.summary.toNat ++ be8 s.faults.count ++
          (List.range 36).flatMap (fun b => be8 (s.wear b).count ++ bit (s.wear b).worn) ++
          (match s.faults.spare with
            | .free => [0#8] ++ open' 1 28
            | .copying b => [1#8] ++ be8 b
            | .serving b => [2#8] ++ be8 b)) ∧
      reads (.identify tag body) 0x90#8
        (be16 Config.identityCode.toNat ++ be8 Config.revision.toNat ++
          (match s.mode with | .configure => [0#8] | .census => [1#8] | .running => [2#8] | .safe => [3#8]) ++
          (match s.link.rate with | .r9600 => [0#8] | .r19200 => [1#8] | .r38400 => [2#8] | .r115200 => [3#8]) ++
          bit s.clock.isSet ++ bit s.store.valid) ∧
      reads (.readNodes tag body) 0x91#8
        (be8 s.bus.nodes.rows.length ++ s.bus.nodes.rows.flatMap (fun r => be8 r.1 ++
          (match r.2.live with | .unheard => [0#8] | .live => [1#8] | .silent => [2#8]) ++ bit r.2.heard ++ bit r.2.poll)) ∧
      (∃ due : List Slot, due = s.roster.active.filter (fun x => x.state == .called || (s.clock.isSet &&
          (x.state == .opened || x.state == .assigned) && decide (x.release - s.beh.callLead ≤ s.clock.minute))) ∧
        reads (.listDue tag body) 0x6A#8 (be16 due.length ++ (due.take 8).flatMap (fun x =>
          if s.marked x.record then be16 x.num ++ open' 2 31 ++ slotState x.state ++ open' 3 33
          else be16 x.num ++ be16 x.release ++ slotState x.state ++ be16 ((x.assigned.map (·.2)).getD 0) ++
            (match x.state, x.assigned with
              | .assigned, some (v, _) => why v x
              | _, _ => [0#8]))))) ∧
    (∀ plan x, body.length = 3 → planOf (at8 body 0) = some plan → slotIn (s.plan plan) (at16 body 1) = some x →
      (s.marked x.record = true → answersOnly (.readSlot tag body) s 0x65#8 tag { status := .damaged, body := [] }) ∧
      (s.marked x.record = false →
        reads (.readSlot tag body) 0x65#8 (be8 (at8 body 0) ++ be16 x.num ++ be16 x.release ++ be16 x.duty ++
          [x.bodies, x.drives] ++ be16 x.requirement ++ be8 x.gate ++ slotState x.state ++ named x.assigned ++ named x.last ++
          be8 ((if x.substituted then 1 else 0) + (if x.uncalled then 2 else 0) + (if x.unconfirmed then 4 else 0)) ++
          (match x.call with
            | none => List.replicate 13 0#8
            | some c => [1#8] ++ be32 c.time ++ be32 c.deadline ++
              (match c.place with | .lane l p => 7#8 :: be8 l ++ be8 p | .spot n => 8#8 :: be8 n ++ [0#8]) ++
              bit c.cleared) ++ bit (plan == .staged && s.roster.ready)))) ∧
    (∀ plan, body.length = 3 → planOf (at8 body 0) = some plan → slotIn (s.plan plan) (at16 body 1) = none →
      answersOnly (.readSlot tag body) s 0x65#8 tag { status := .notFound, body := [] }) ∧
    (body.length = 2 → at8 body 0 = 0 → 1 ≤ at8 body 1 → at8 body 1 ≤ s.geo.numBays →
      let r := s.bay (at8 body 1)
      reads (.readStation tag body) 0x26#8
        ((match (s.geo.bay (at8 body 1)).kind with | .fuel => [0#8] | .service => [1#8]) ++
          (match r.state with
            | .free => [0#8] | .awaiting => [1#8] | .serving => [2#8] | .finished => [3#8] | .closed => [4#8]
            | .faulted => [5#8]) ++ bit r.closing ++ occupant r.occupant)) ∧
    (body.length = 2 → at8 body 0 = 1 → 1 ≤ at8 body 1 → at8 body 1 ≤ s.geo.numWashes →
      let r := s.wash (at8 body 1)
      reads (.readStation tag body) 0x26#8
        ([1#8] ++ (match r.state with | .idle => [0#8] | .washing => [1#8] | .faulted => [2#8] | .closed => [3#8]) ++
          bit r.closing ++ occupant r.occupant ++ be8 r.queue.length ++ r.queue.flatMap (fun e =>
            be16 e.vehicle ++ be16 (s.fleetOf e.vehicle) ++ be8 (stateCode (s.vehicle e.vehicle).state) ++ bit e.heavy ++
            bit e.directed.isSome))) ∧
    (body.length = 3 → keyAt (at8 body 0) (at8 body 1) (at8 body 2) = none →
      answersOnly (.readSetting tag body) s 0x82#8 tag { status := .notFound, body := [] }) ∧
    (∀ k, body.length = 3 → keyAt (at8 body 0) (at8 body 1) (at8 body 2) = some k →
      reads (.readSetting tag body) 0x82#8 (body ++ be16 (s.settings.read k)))

/-- The model's choice, log entry 7: on an empty queue a step is a second of the timebase of R184. R17, R68, R110, R128,
R147, R175, R184, R185: the clock after a minute event, a rollover and SET CLOCK; the budget and the poll marks in the
minute event, and its order of work where nothing has expired; what a rollover leaves of the plans, the assignments and
the wear, on its own and in SET CLOCK: the calls it settles, the lanes it recounts as one change, and the moments that it
reduces at the wrap of the day, in every block. The model's choices in it: log entries 5, 8, 11, 13. -/
def Obligations.ClockAdvances : Prop :=
  (∀ s : State, s.pending = [] →
     (s.clock.isSet = false → step s = .next s) ∧
     (s.clock.isSet = true → s.clock.seconds < 59 →
       step s = .next { s with clock := { s.clock with seconds := s.clock.seconds + 1 } }) ∧
     (s.clock.isSet = true → 59 ≤ s.clock.seconds →
       step s = exec (.minuteEvent []) { s with clock := { s.clock with seconds := 0 } })) ∧
  (∀ (s : State) (wear : List MemError) (tag : Byte) (body : Bytes),
     let day := if s.clock.day = 65535 then 0 else s.clock.day + 1
     let rolled := fun (t : State) =>
       (∀ b, t.wear b = { count := 0, worn := false }) ∧
       (s.roster.ready = true → t.roster.staged = [] ∧ t.roster.ready = false ∧
         t.roster.active.map (·.num) = s.roster.staged.map (·.num)) ∧
       (s.roster.ready = false → t.roster = { active := [], staged := s.roster.staged, ready := false } ∧
         t.faults.summary &&& (1#32 <<< 13) ≠ 0#32 ∧
         ∀ v, (s.vehicle? v).isSome = true → (t.vehicle v).assignment = none ∧ (t.vehicle v).key = 1440)
     let back := fun (n : Nat) => n - 65536 * 1440
     let wrap := fun (n : Nat) => if s.clock.day = 65535 then back n else n
     let times := fun (f : Nat → Nat) (t : State) =>
       let waits := fun (x : Waiting) => { x with arrival := f x.arrival }
       t.service.gate1 = s.service.gate1.map waits ∧ t.service.gate2 = s.service.gate2.map waits ∧
       (∀ p, t.pad p = (s.pad p).map waits) ∧
       (∀ b, t.bay b = { s.bay b with deadline := (s.bay b).deadline.map f }) ∧
       (∀ l, t.wash l = { s.wash l with
         queue := (s.wash l).queue.map (fun e => { e with directed := e.directed.map f }) }) ∧
       (∀ n, t.spot n = (s.spot n).map (fun x => match x with
         | .reserved v d => .reserved v (f d)
         | .held v => .held v)) ∧
       t.energy.budget = { s.energy.budget with deadline := s.energy.budget.deadline.map f }
     let laneTimes := fun (f : Nat → Nat) (t : State) => ∀ l, t.lane l = { s.lane l with
       entries := (s.lane l).entries.map (fun e => { e with mark := (match e.mark with
         | .arriving d => .arriving (f d)
         | .leavingMove d b => .leavingMove (f d) b
         | m => m) })
       inversions := (t.lane l).inversions }
     let next : State := { s with clock := { s.clock with minute := s.clock.minute + 1, seconds := 0 } }
     (s.clock.isSet = false → exec (.minuteEvent wear) s = .next s ∧ exec .rollover s = .next s) ∧
     (s.clock.isSet = true →
       ∃ t, exec (.minuteEvent wear) s = .next t ∧ t.startup = s.startup ∧ t.pending = s.pending ∧
         t.bus.inbound = s.bus.inbound ∧ t.store = s.store ∧ t.clock =
         if s.clock.minuteOwed then { s.clock with minuteOwed := false }
         else if s.clock.minute = 1439 then { s.clock with day := day, minute := 0, seconds := 0 }
         else { s.clock with minute := s.clock.minute + 1, seconds := 0 }) ∧
     (s.clock.isSet = true → s.clean = true →
       ∃ t, exec (.minuteEvent []) s = .next t ∧ t.mode = s.mode ∧ t.settings = s.settings ∧ t.link = s.link ∧
         (∀ a r, s.bus.nodes.get? a = some r → ∃ r', t.bus.nodes.get? a = some r' ∧ r'.live = r.live ∧
           (s.mode = .running ∨ s.mode = .safe → r'.heard = false ∧
             (r'.poll = true ↔ r.poll = true ∨ (r.heard = false ∧
               ∃ c, 1 ≤ c ∧ c ≤ s.geo.numCabinets ∧ s.geo.cabinetNode c = a))) ∧
           (s.mode = .census ∨ s.mode = .configure → r' = r)) ∧
         (s.clock.minute < 1439 →
           let deadline := if s.energy.budget.fresh = true ∧ s.energy.budget.deadline = none then some (t.now + s.beh.refresh)
             else s.energy.budget.deadline
           t.energy.budget = { s.energy.budget with
             fresh := s.energy.budget.fresh && !deadline.any (fun d => decide (d ≤ t.now))
             deadline := deadline } ∧
           (s.energy.budget.fresh = true → t.energy.budget.fresh = false →
             t.notices.pending &&& (1#16 <<< 7) ≠ 0#16)) ∧
         (s.clock.minuteOwed = false → s.clock.minute = 1439 → rolled t)) ∧
     (s.clock.isSet = true → s.clean = true → s.clock.minute < 1439 → s.clock.minuteOwed = false →
       (∀ b ∈ next.bayNums, next.bayDue b = false) → (∀ l ∈ next.washNums, next.washDue l = false) →
       next.dueMovements = [] → next.dueCalls = [] →
       (s.energy.budget.fresh = true → ∃ d, s.energy.budget.deadline = some d ∧ next.now < d) →
       exec (.minuteEvent []) s = .next ((next.recompute.attemptPass []).graceTests).minutePolls) ∧
     (s.clock.minute ≠ 1439 → exec .rollover s = .next s) ∧
     (s.clock.isSet = true → s.clock.minute = 1439 → s.clean = true →
       ∃ t, exec .rollover s = .next t ∧ rolled t ∧
         t.core = { s.core with
           clock := { s.clock with day := day, minute := 0, seconds := 0, minuteOwed := true }
           wear := .empty } ∧
         s.recountedAll t ∧
         ((∀ l, 1 ≤ l → l ≤ s.geo.numLanes → (s.lane l).inversions = 0 → (t.lane l).inversions = 0) →
           t.notices.pending &&& (1#16 <<< 2) = s.notices.pending &&& (1#16 <<< 2)) ∧
         (s.callsPlain → s.callsSettled t) ∧
         (∀ x v f c, x ∈ s.roster.active → x.calls v f c → (∀ y ∈ s.roster.active, y.state = .called → y = x) →
           s.callsPlain → (s.vehicle v).loc ≠ .apron → s.bus.outFull = false → s.bus.heldOver = [] →
           s.cancelCallFor c x.num ∈ t.bus.urgent) ∧
         times wrap t ∧ ((∀ x ∈ s.roster.active, x.state ≠ .called) → laneTimes wrap t)) ∧
     (s.wrapTimes.core = s.core ∧ s.wrapTimes.fleet = s.fleet ∧ times back s.wrapTimes ∧ laneTimes back s.wrapTimes ∧
       ∀ n x, s.slot n = some x → s.wrapTimes.slot n = some { x with
         call := x.call.map (fun c => { c with deadline := back c.deadline }) }) ∧
     (s.ready = true → body.length = 4 → at16 body 2 ≤ 1439 → s.clean = true → s.clock.isSet = true →
       at16 body 0 + 32768 ≤ s.clock.day →
       let u : State := { s with
         clock := { isSet := true, day := at16 body 0, minute := at16 body 2, seconds := 0, minuteOwed := false } }
       exec (.setClock tag body) s =
         .next { u.wrapTimes.rollBlocks.minuteBlocks with link := s.linkAnswering 0x81#8 .done tag [] }) ∧
     (s.ready = true → body.length = 4 → 1439 < at16 body 2 →
       answersOnly (.setClock tag body) s 0x81#8 tag { status := .outOfRange, body := [] }) ∧
     (s.ready = true → body.length = 4 → at16 body 2 ≤ 1439 →
       let forward := s.clock.isSet = true ∧ (s.clock.day < at16 body 0 ∨ at16 body 0 + 32768 ≤ s.clock.day)
       ∃ t, exec (.setClock tag body) s = .next t ∧ t.link = s.linkAnswering 0x81#8 .done tag [] ∧
         t.clock = { isSet := true, day := at16 body 0, minute := at16 body 2, seconds := 0, minuteOwed := false } ∧
         t.startup = false ∧ t.pending = s.pending ∧ t.bus.inbound = s.bus.inbound ∧ t.store = s.store ∧
         (s.clean = true → (forward → rolled t) ∧
           (¬ forward → (∀ b, t.wear b = s.wear b) ∧ t.roster.staged = s.roster.staged ∧
             t.roster.ready = s.roster.ready ∧ t.roster.active.map (·.num) = s.roster.active.map (·.num) ∧
             ((∀ x ∈ s.roster.active, x.state = .gone ∨ x.state = .missed ∨ x.state = .cancelled) →
               t.roster = s.roster)))))

/-- R23, R26, R39, R50, R53, R77, R84, R98, R186, R187: WRITE SETTING, its refusals, and what a behavioural and a geometry
setting change; a rating below the minimum run power lowers that too (the model's reading of R77, log entry 38). STORE
SETTINGS; the store's completion. R176: the completion of a sparing copy, of a bank with no error and with one. The
model's choices in it: log entries 6, 13, 32, 33, 39, 78. -/
def Obligations.SettingsWrittenAndStored : Prop :=
  ∀ (s : State) (tag : Byte) (body : Bytes),
    let key := keyAt (at8 body 0) (at8 body 1) (at8 body 2)
    let answer := fun x => answersOnly (.writeSetting tag body) s 0x83#8 tag { status := x, body := [] }
    let ranges := [(2, 30), (0, 30), (1, 30), (0, 60), (0, 60), (0, 2000), (0, 9999), (10, 300), (1, 15), (1, 15), (0, 10000),
      (0, 10000), (0, 240), (1, 255)]
    let range : Key → Nat × Nat := fun k => match k with
      | .numLanes => (1, 48) | .numPoints => (0, 96) | .numCabinets => (0, 12) | .numBays => (1, 4) | .numWashes => (1, 2)
      | .laneKind _ | .laneClass _ | .bayKind _ => (0, 1)
      | .laneDepth _ | .pointPos _ => (1, 8)
      | .laneIndex _ | .gateDir _ => (0, 3)
      | .lanePoint _ _ => (0, 96)
      | .pointCabinet _ => (1, 12) | .pointLane _ => (1, 48) | .pointRating _ => (10, 300)
      | .pointPmin p => (1, (s.geo.point p).rating)
      | .padCapacity => (1, 16) | .numSpots => (0, 16)
      | _ => (1, 62)
    let used := fun (k : Key) (n : Nat) => match k with
      | .numLanes => 1 ≤ n ∧ n ≤ 48 ∧ (s.lane n).entries ≠ []
      | .laneDepth l => ∃ e ∈ (s.lane l).entries, e.pos = n
      | .numBays => 1 ≤ n ∧ n ≤ 4 ∧ (s.bay n).occupant ≠ none
      | .numWashes => 1 ≤ n ∧ n ≤ 2 ∧ ((s.wash n).occupant ≠ none ∨ (s.wash n).queue ≠ [])
      | .padCapacity => s.pad n ≠ none
      | .numSpots => s.spot n ≠ none
      | _ => False
    (s.ready = true → body.length = 5 →
      (key = none → answer .notFound) ∧
      (∀ k, key = some k →
        let v := at16 body 3
        (k.undefinedCode v = true → answer .malformed) ∧
        (k.undefinedCode v = false → k.isGeometry = true → s.mode ≠ .configure → answer .wrongState) ∧
        (k.undefinedCode v = false → k.isGeometry = false ∨ s.mode = .configure → s.store.snapshot ≠ none →
          answer .busy) ∧
        (∀ row, k = .beh row → k.undefinedCode v = false → s.store.snapshot = none → s.clean = true →
          ∃ t x, exec (.writeSetting tag body) s = .next t ∧
            t.core = { s.core with link := s.linkAnswering 0x83#8 .done tag (be16 x), settings := t.settings } ∧
            t.settings.geo = s.settings.geo ∧ t.settings.read (.beh row) = x ∧
            (∀ lo hi, ranges[row - 1]? = some (lo, hi) → x = max lo (min hi v)) ∧ (15 ≤ row → x = v) ∧
            (∀ r, r ≠ row → 1 ≤ r → r ≤ 16 → t.settings.read (.beh r) = s.settings.read (.beh r)) ∧
            (∀ p y, 1 ≤ p → p ≤ s.geo.numPoints → s.session p = some y → row = 5 ∨ row = 6 ∨ row = 7 →
              ∃ z, t.session p = some z ∧ z.startSoe = y.startSoe ∧ z.base = y.base ∧ z.delivered = y.delivered ∧
                z.requirement = (((s.vehicle y.vehicle).assignment.bind s.slot).map (·.requirement)).getD t.beh.defaultReq ∧
                z.target = min (s.vehicle y.vehicle).capacity (z.requirement + t.beh.reserve) ∧
                z.deadline = (s.vehicle y.vehicle).key - t.beh.margin) ∧
            t.energy.budget = { s.energy.budget with
              last := s.energy.budget.last.map (fun b => (min b.1 t.beh.contract, b.2)) } ∧
            t.fleet = s.fleet ∧ t.roster = s.roster) ∧
        (s.mode = .configure → k.isGeometry = true → k.undefinedCode v = false → s.store.snapshot = none →
          s.clean = true →
          ∃ t x, exec (.writeSetting tag body) s = .next t ∧
            t.core = { s.core with link := s.linkAnswering 0x83#8 .done tag (be16 x), settings := t.settings } ∧
            t.settings.beh = s.settings.beh ∧ t.settings.read k = x ∧
            max (range k).1 (min (range k).2 v) ≤ x ∧ (∀ n, used k n → n ≤ x) ∧
            (x = max (range k).1 (min (range k).2 v) ∨ used k x) ∧
            (∀ g i f k', keyAt g i f = some k' → k'.isGeometry = true → k' ≠ k →
              t.settings.read k' = (match k, k' with
                | .pointRating p, .pointPmin q => if q = p then min (s.settings.read k') x else s.settings.read k'
                | _, _ => s.settings.read k')) ∧
            (∀ l, t.lane l = if l ≤ t.geo.numLanes then s.lane l
              else { state := .unverified, closing := false, entries := [], inversions := 0, image := 0#8 }) ∧
            (∀ p, t.geo.numPoints < p → t.session p = none ∧ (t.point p).cond = none) ∧
            (∀ b, t.bay b = if b ≤ t.geo.numBays then s.bay b
              else { state := .free, closing := false, occupant := none, onward := false, deadline := none }) ∧
            (∀ w, t.wash w = if w ≤ t.geo.numWashes then s.wash w
              else { state := .idle, closing := false, occupant := none, queue := [] }) ∧
            t.fleet = s.fleet ∧ t.roster = s.roster ∧ t.service.gate1 = s.service.gate1 ∧
            t.service.gate2 = s.service.gate2 ∧ t.service.pad = s.service.pad ∧ t.yard.spots = s.yard.spots ∧
            t.yard.stranded = s.yard.stranded))) ∧
    (s.ready = true → body.length = 0 →
      (s.store.snapshot ≠ none →
        answersOnly (.storeSettings tag body) s 0x84#8 tag { status := .busy, body := [] }) ∧
      (s.store.snapshot = none → s.clean = true →
        exec (.storeSettings tag body) s = .next { s with
          link := s.linkAnswering 0x84#8 .done tag []
          store := { s.store with valid := false, snapshot := some s.settings } })) ∧
    (s.store.snapshot = none → exec .storeComplete s = .next s) ∧
    (∀ st, s.store.snapshot = some st → exec .storeComplete s = .next { s with
      store := { valid := true, copy := st, snapshot := none }
      notices := { s.notices with pending := s.notices.pending ||| (1#16 <<< 13) } }) ∧
    (∀ b, s.faults.spare = .copying b → (∀ e ∈ s.faults.errors, e.record / 32 ≠ b) →
      exec .sparingCopyComplete s = .next { s with faults := { s.faults with spare := .serving b } }) ∧
    (∀ b n, s.faults.spare = .copying b → n / 32 = b → s.marked n = false → s.faults.errors = [{ record := n, kind := .single }] →
      ∃ t, exec .sparingCopyComplete s = .next t ∧ t = { s with faults := t.faults, notices := t.notices } ∧
        t.faults.spare = .serving b ∧ t.faults.errors = [] ∧ t.faults.marks = s.faults.marks ∧
        (∀ m, t.wear m = if m = b then { count := min 255 ((s.wear b).count + 1)
                                         worn := (s.wear b).worn || decide (s.beh.corrThreshold ≤ min 255 ((s.wear b).count + 1)) }
          else s.wear m) ∧
        t.faults.summary &&& (1#32 <<< 19) ≠ 0#32 ∧
        ((s.wear b).worn = false → s.beh.corrThreshold ≤ min 255 ((s.wear b).count + 1) →
          t.faults.summary &&& (1#32 <<< 22) ≠ 0#32)) ∧
    (∀ b n left, s.faults.spare = .copying b → n / 32 = b → s.marked n = false →
      s.faults.errors = [{ record := n, kind := .double left }] →
      ∃ t, exec .sparingCopyComplete s = .next t ∧ t.faults.spare = .serving b ∧ t.faults.errors = [] ∧
        t.faults.summary &&& (1#32 <<< 20) ≠ 0#32 ∧
        (s.inUse n = false → t.faults.marks = s.faults.marks ∧ t = { s with faults := t.faults, notices := t.notices }) ∧
        (n < 320 → s.inUse n = true → t.marked n = true)) ∧
    ((∀ b, s.faults.spare ≠ .copying b) → exec .sparingCopyComplete s = .next s)

/-- R163: SET NOTICE ENABLES, in every mode; and no other command but a reset changes an enable or a priority. -/
def Obligations.NoticeEnablesReplaced : Prop :=
  ∀ (s : State) (tag : Byte) (body : Bytes),
    (s.ready = true → body.length = 18 → (∃ i, i < 16 ∧ 1 < at8 body (2 + i)) →
      answersOnly (.setNoticeEnables tag body) s 0x87#8 tag { status := .malformed, body := [] }) ∧
    (s.ready = true → body.length = 18 → (∀ i, i < 16 → at8 body (2 + i) ≤ 1) →
      ∃ t, exec (.setNoticeEnables tag body) s = .next t ∧
        t = { s with notices := t.notices, link := s.linkAnswering 0x87#8 .done tag [] } ∧
        t.notices.pending = s.notices.pending ∧ t.notices.enables = BitVec.ofNat 16 (at16 body 0) ∧
        (∀ i, i < 16 → t.notices.urgents.getLsbD i = decide (at8 body (2 + i) = 1)) ∧
        (t.attnU = true ↔ ∃ i, i < 16 ∧ t.notices.pending.getLsbD i = true ∧ t.notices.enables.getLsbD i = true ∧
          at8 body (2 + i) = 1) ∧
        (t.attnR = true ↔ ∃ i, i < 16 ∧ t.notices.pending.getLsbD i = true ∧ t.notices.enables.getLsbD i = true ∧
          at8 body (2 + i) = 0)) ∧
    (∀ (c : Instr) (t : State),
      (match c with
        | .setNoticeEnables _ _ | .frameDiscarded _ | .powerOnReset | .lineReset | .responseComplete => False
        | .unknownRequest code _ _ | .busyAnswer code _ _ => code ≠ 0x87#8
        | _ => True) →
      exec c s = .next t → t.notices.enables = s.notices.enables ∧ t.notices.urgents = s.notices.urgents)

/-- R160, R162, R188: the attention lines, in every state, both down during start-up, and CLEAR NOTICES. The model's
choice in it: log entry 54. -/
def Obligations.NoticesClearedLinesFollow : Prop :=
  ∀ (s : State) (tag : Byte) (body : Bytes),
    (s.attnU = true ↔ s.startup = false ∧ ∃ i, i < 16 ∧ s.notices.pending.getLsbD i = true ∧
      s.notices.enables.getLsbD i = true ∧ s.notices.urgents.getLsbD i = true) ∧
    (s.attnR = true ↔ s.startup = false ∧ ∃ i, i < 16 ∧ s.notices.pending.getLsbD i = true ∧
      s.notices.enables.getLsbD i = true ∧ s.notices.urgents.getLsbD i = false) ∧
    (s.ready = true → body.length = 4 →
      ∃ t, exec (.clearNotices tag body) s = .next t ∧
        t = { s with
          notices := { s.notices with pending := t.notices.pending }
          link := s.linkAnswering 0x86#8 .done tag (be16 t.notices.pending.toNat) } ∧
        ∀ i, i < 16 → t.notices.pending.getLsbD i = (s.notices.pending.getLsbD i && !(at32 body 0).testBit i))

/-- R165, R166, R168, R177, R179, R180: a report against the capture as it stands, in every state; RELEASE FAULT, and its
move from SAFE to CENSUS, which withdraws every call and tells the yard. The model's choice in it: log entry 53. -/
def Obligations.FaultsCapturedAndReleased : Prop :=
  ∀ (s : State) (tag : Byte) (body : Bytes),
    (∀ (c : FaultCode) (subject : Nat),
      let t := s.report c subject
      let new : Capture := { code := c, subject := subject, time := s.clock.time }
      t = { s with faults := t.faults, notices := t.notices } ∧
      t.faults = { s.faults with capture := t.faults.capture, summary := t.faults.summary, count := t.faults.count } ∧
      t.faults.summary = s.faults.summary ||| (1#32 <<< c.num) ∧
      (s.faults.capture = none → t.faults.capture = some new ∧ t.faults.count = s.faults.count ∧
        t.notices = { s.notices with pending := s.notices.pending ||| (1#16 <<< 12) }) ∧
      (∀ old, s.faults.capture = some old →
        t.faults.count = min 255 (s.faults.count + 1) ∧
        (old.code.cls < c.cls → t.faults.capture = some new ∧
          t.notices = { s.notices with pending := s.notices.pending ||| (1#16 <<< 12) }) ∧
        (c.cls ≤ old.code.cls → t.faults.capture = some old ∧ t.notices = s.notices))) ∧
    (s.ready = true → body.length = 1 → at8 body 0 < 4 →
      let faults := { s.faults with
        capture := if (at8 body 0).testBit 0 then none else s.faults.capture
        summary := if (at8 body 0).testBit 1 then 0#32 else s.faults.summary
        count := if (at8 body 0).testBit 1 then 0 else s.faults.count }
      let bytes := fun (f : FaultUnit) => (match f.capture with
        | some c => [1#8] ++ be8 c.code.num ++ be8 c.code.cls ++ be16 c.subject ++ be32 (c.time.getD 0xFFFFFFFF)
        | none => [0#8] ++ (List.range 4).map (fun i => Config.unstatedByte (24 + i)) ++ be32 0xFFFFFFFF) ++
        be32 f.summary.toNat ++ be8 f.count
      let frees := (at8 body 0).testBit 0 = true ∧ s.mode = .safe ∧
        ∃ x, s.faults.capture = some x ∧ (x.code = .m5 ∨ x.code = .x1)
      (¬ frees → exec (.releaseFault tag body) s =
        .next { s with faults := faults, link := s.linkAnswering 0x89#8 .done tag (bytes faults) }) ∧
      (frees → s.clean = true → ∃ t, exec (.releaseFault tag body) s = .next t ∧ t.mode = .census ∧
        t.link = s.linkAnswering 0x89#8 .done tag (bytes t.faults) ∧
        (∀ p, 1 ≤ p → p ≤ s.geo.numPoints → t.session p = none) ∧
        (∀ l, 1 ≤ l → l ≤ s.geo.numLanes → (t.lane l).state = .unverified) ∧ s.tellsYard t .census ∧
        (s.fleet.vehicles.wf = true → s.callsPlain → s.callsWithdrawn t)))

/-- R68, R76, R110, R177, R179, R183: BEGIN CENSUS, ENTER CONFIGURE and LEAVE CONFIGURE: the mode and its YARD STATE, and
what the entry does to sessions, movements, lanes, spots and calls, with no slot CALLED, and with calls each of which is a
vehicle's own. The model's choice in it: log entry 48. -/
def Obligations.CensusAndConfigureEntered : Prop :=
  ∀ (s : State) (tag : Byte) (body : Bytes) (c : Instr) (code : Byte) (source dest : PartMode), s.ready = true →
    body.length = 0 →
    (c, code, source, dest) ∈ [(.beginCensus tag body, 0x8A#8, .running, .census),
      (.enterConfigure tag body, 0x8C#8, .census, .configure), (.leaveConfigure tag body, 0x8D#8, .configure, .census)] →
    (s.mode ≠ source → answersOnly c s code tag { status := .wrongState, body := [] }) ∧
    (s.mode = source → source = .configure → s.geo.ok = false → s.clean = true →
      answersOnly c s code tag { status := .conflict, body := [] }) ∧
    (s.mode = source → source ≠ .configure ∨ s.geo.ok = true → s.clean = true → s.fleet.vehicles.wf = true →
      let moving := fun (v : Nat) =>
        (s.vehicle v).state = .toBay ∨ (s.vehicle v).state = .toWash ∨ (s.vehicle v).state = .toBerth
      let called := fun (v : Nat) => ∃ x ∈ s.roster.active, ∃ f c, x.calls v f c
      let entered := fun (t : State) => exec c s = .next t ∧
        t.core = { s.core with mode := dest, link := s.linkAnswering code .done tag [], nodes := t.bus.nodes } ∧
        (dest = .census → ∀ a r, t.bus.nodes.get? a = some r → r.poll = true) ∧
        s.tellsYard t dest ∧ (∀ p, 1 ≤ p → p ≤ s.geo.numPoints → t.session p = none) ∧
        (∀ v, moving v → t.vehicle v = { s.vehicle v with state := .unknown, loc := .absent }) ∧
        (∀ v, ¬ moving v → ¬ called v → t.vehicle? v = s.vehicle? v) ∧
        (∀ l, 1 ≤ l → l ≤ s.geo.numLanes →
          (t.lane l).state = .unverified ∧ (t.lane l).image = (s.lane l).image ∧
          (t.lane l).closing = ((s.lane l).closing || (s.lane l).state == .closed) ∧
          (∀ e ∈ (s.lane l).entries, ¬ called e.vehicle →
            (e ∈ (t.lane l).entries ↔ e.mark = .settled ∨ e.mark = .leavingCall)) ∧ s.recounted t l) ∧
        (∀ n, 1 ≤ n → n ≤ s.geo.numSpots → t.spot n = (match s.spot n with
          | some (.held v) => if (s.vehicle v).state = .toBerth then none else some (.held v)
          | _ => none)) ∧
        t.yard.stranded = s.yard.stranded ∧ t.service.gate1 = s.service.gate1 ∧
        t.service.gate2 = s.service.gate2 ∧ t.service.pad = s.service.pad
      ((∀ x ∈ s.roster.active, x.state ≠ .called) → ∃ t, entered t ∧ t.roster = s.roster ∧
        (∀ p, 1 ≤ p → p ≤ s.geo.numPoints → (t.point p).stop = (s.point p).stop) ∧
        ∀ l, 1 ≤ l → l ≤ s.geo.numLanes →
          (t.lane l).entries = (s.lane l).entries.filter (fun e => e.mark == .settled || e.mark == .leavingCall)) ∧
      (s.callsPlain → ∃ t, entered t ∧ s.callsWithdrawn t ∧
        (∀ x ∈ s.roster.active, x.state ≠ .called → t.slot x.num = some x) ∧
        t.roster = { s.roster with active := t.roster.active } ∧ t.roster.active.map (·.num) = s.roster.active.map (·.num) ∧
        ∀ x ∈ s.roster.active, ∀ v f k, x.calls v f k → (∀ y ∈ s.roster.active, y.state = .called → y = x) →
          (s.vehicle v).loc ≠ .apron → (∀ p, 1 ≤ p → p ≤ s.geo.numPoints → s.session p = none) →
          s.bus.urgent = [] → s.bus.normal = [] → s.bus.heldOver = [] → s.cancelCallFor k x.num ∈ t.bus.urgent))

/-- R158, R164, R167, R177, R180, R182: FINISH CENSUS, STOP YARD and RESTART, and the YARD STATE that each change of mode
queues. R24, R34, R37, R38, R81, R83, R182: what FINISH CENSUS does as RUNNING begins, with nothing STRANDED: the vehicle
that waits on the pad takes the lowest FREE bay that serves it, and only then a vehicle is admitted from the gate queues;
on an empty pad the heads of the two queues are admitted by arrival; a session opens for each vehicle PARKED with the plug
in. -/
def Obligations.CensusFinishedSafeRestart : Prop :=
  (∀ (s : State) (tag : Byte) (body : Bytes), s.ready = true → body.length = 0 →
     let agrees := fun l => (s.lane l).image = positionsOf (s.lane l).entries
     (s.mode ≠ .census ∨ s.clock.isSet = false →
       answersOnly (.finishCensus tag body) s 0x8B#8 tag { status := .wrongState, body := [] }) ∧
     (s.mode = .census → s.clock.isSet = true → s.clean = true →
       ∃ t left, exec (.finishCensus tag body) s = .next t ∧ left = ((upTo 1 s.geo.numLanes).filter (fun l => ¬ agrees l)).length ∧
         t.core = { s.core with
           mode := .running
           link := s.linkAnswering 0x8B#8 .done tag (be8 (s.geo.numLanes - left) ++ be8 left) } ∧
         (∀ l, 1 ≤ l → l ≤ s.geo.numLanes →
           (agrees l → (t.lane l).state = if (s.lane l).closing then .closed else .opened) ∧
           (¬ agrees l → (t.lane l).state = .unverified) ∧ (t.lane l).image = (s.lane l).image) ∧
         s.tellsYard t .running ∧ t.notices.pending &&& (1#16 <<< 14) ≠ 0#16 ∧ t.roster = s.roster) ∧
     (s.mode = .safe → exec (.stopYard tag body) s =
       .next { s.report .x1 0 with link := s.linkAnswering 0x8E#8 .done tag [] }) ∧
     (s.mode = .running ∨ s.mode = .census → s.clean = true →
       ∃ t, exec (.stopYard tag body) s = .next t ∧
         t.core = { s.core with mode := .safe, link := s.linkAnswering 0x8E#8 .done tag [] } ∧ t.jobs = s.jobs ∧
         s.tellsYard t .safe ∧
         t.faults.summary &&& (1#32 <<< 25) ≠ 0#32 ∧ (∃ x, t.faults.capture = some x ∧ x.code.fatal = true) ∧
         t.effective = (match s.energy.budget.last with
           | some x => min x.1 s.beh.fallback
           | none => s.beh.fallback)) ∧
     (s.mode = .configure → s.geo.ok = true → s.clean = true →
       ∃ t, exec (.stopYard tag body) s = .next t ∧
         t.core = { s.core with mode := .safe, link := s.linkAnswering 0x8E#8 .done tag [], nodes := t.bus.nodes } ∧
         t.jobs = s.jobs ∧ s.tellsYard t .safe ∧ t.faults.summary &&& (1#32 <<< 25) ≠ 0#32 ∧
         ∃ x, t.faults.capture = some x ∧ x.code.fatal = true) ∧
     exec (.restart tag body) s =
       .next { s with link := { s.linkAnswering 0x8F#8 .done tag [] with restarting := true } }) ∧
  (∀ (s : State) (tag : Byte), s.ready = true → s.mode = .census → s.clock.isSet = true → s.clean = true →
     s.yard.stranded = [] → s.service.pad.wf = true →
     let serves := fun (b v : Nat) => 1 ≤ b ∧ b ≤ s.geo.numBays ∧ (s.bay b).state = .free ∧
       ((s.geo.bay b).kind = .fuel ∨ (s.vehicle v).drive = .battery)
     let waits := fun (w : Waiting) (loc : Loc) => (s.vehicle? w.vehicle).isSome = true ∧ (s.vehicle w.vehicle).loc = loc
     let admitted := fun (t : State) (w : Waiting) (f : Nat) => t.pad f = some w ∧
       t.vehicle w.vehicle = { s.vehicle w.vehicle with state := .onPad, loc := .pad f }
     (∀ p b w, s.pad p = some w → (∀ k x, s.pad k = some x → k = p) → waits w (.pad p) → serves b w.vehicle →
       (∀ c, c < b → ¬ serves c w.vehicle) →
       s.service.gate1.length + s.service.gate2.length ≤ 1 →
       (∀ g h, g = 1 ∨ g = 2 → s.gateQueue g = [h] → waits h (.gateQueue g 1)) →
       ∃ t, exec (.finishCensus tag []) s = .next t ∧
         t.bay b = { state := .awaiting, closing := (s.bay b).closing, occupant := some w.vehicle, onward := false,
                     deadline := some s.moveDeadline } ∧
         t.vehicle w.vehicle = { s.vehicle w.vehicle with state := .toBay, loc := .bay b, passOver := 0 } ∧
         (s.service.gate1 = [] → s.service.gate2 = [] → t.pad p = none ∧ (∀ c, c ≠ b → t.bay c = s.bay c) ∧
           ∀ v, v ≠ w.vehicle → t.vehicle? v = s.vehicle? v) ∧
         (∀ g h f, s.gateQueue g = [h] → g = 1 ∨ g = 2 → 1 ≤ f → f ≤ s.geo.padCapacity →
           s.pad f = none ∨ f = p → (∀ k, 1 ≤ k → k < f → s.pad k ≠ none ∧ k ≠ p) →
           (∀ c, c ≠ b → ¬ serves c h.vehicle) →
           admitted t h f ∧ t.gateQueue g = [] ∧ (∀ c, c ≠ b → t.bay c = s.bay c) ∧
           ∀ v, v ≠ w.vehicle → v ≠ h.vehicle → t.vehicle? v = s.vehicle? v)) ∧
     (∀ g a d, s.service.pad = .empty → g = 1 ∨ g = 2 → s.gateQueue g = [a] → s.gateQueue (3 - g) = [d] →
       a.arrival < d.arrival ∨ (a.arrival = d.arrival ∧ g = 1) → waits a (.gateQueue g 1) → waits d (.gateQueue (3 - g) 1) →
       2 ≤ s.geo.padCapacity → (∀ b, ¬ serves b a.vehicle ∧ ¬ serves b d.vehicle) →
       ∃ t, exec (.finishCensus tag []) s = .next t ∧ admitted t a 1 ∧ admitted t d 2 ∧ t.service.gate1 = [] ∧
         t.service.gate2 = [] ∧ t.service.bays = s.service.bays ∧ t.service.washes = s.service.washes ∧
         ∀ v, v ≠ a.vehicle → v ≠ d.vehicle → t.vehicle? v = s.vehicle? v) ∧
     (∀ p v, 1 ≤ p → p ≤ s.geo.numPoints → (s.point p).state = .connected ∨ (s.point p).state = .active →
       (s.point p).session = none → s.parkedAt p = some v → (s.vehicle v).drive = .battery → s.damaged v = false →
       (∀ k y, s.pad k = some y → y.vehicle ≠ v) → (∀ y ∈ s.service.gate1 ++ s.service.gate2, y.vehicle ≠ v) →
       ∃ t x, exec (.finishCensus tag []) s = .next t ∧ t.session p = some x ∧ x.vehicle = v ∧
         x.startSoe = (s.vehicle v).soe ∧ x.base = (s.point p).counter ∧ x.delivered = 0 ∧
         x.requirement = s.requirementOf v ∧ x.target = s.targetOf v ∧ x.deadline = s.deadlineOf v ∧ x.opened = s.now))

/-! ### The record patrol (chapter 9) -/

/-- R18, R68, R110, R130, R170 to R175: a record with one error, not yet marked, is checked as a request reads it: a
single error is corrected with M1, counted, and a bank that wears out is dealt with; a double error marks the record with
M2 and is dealt with by its store before the answer: a vehicle, an active and a staged slot, a lane, a session, the
behavioural settings. No record with an error is left unmarked by a minute event. The model's choices in it: log entries
31, 33, 34, 35. -/
def Obligations.RecordsCheckedAsRead : Prop :=
  ∀ (s : State) (tag : Byte) (body : Bytes),
    let one := fun (n : Nat) (k : ErrKind) => s.faults.errors = [{ record := n, kind := k }] ∧ s.marked n = false
    let double := fun (n : Nat) => ∃ left, one n (.double left)
    let reported := fun (t : State) (bit : Nat) => t.faults.summary &&& (1#32 <<< bit) ≠ 0#32
    let count := fun (n : Nat) => min 255 ((s.wear (n / 32)).count + 1)
    let worn := fun (n : Nat) => (s.wear (n / 32)).worn = false ∧ s.beh.corrThreshold ≤ count n
    let sameMarks := fun (t : State) => ∀ m, t.marked m = s.marked m
    (s.clock.isSet = true → ∃ t, exec (.minuteEvent []) s = .next t ∧
      (∀ e ∈ t.faults.errors, e ∈ s.faults.errors ∧ s.marked e.record = true) ∧
      (∀ n k, one n k → s.clock.minute < 1439 → reported t (if k = .single then 19 else 20))) ∧
    (∀ (c : Instr) (n : Nat), s.ready = true → one n .single →
      (c = .readVehicle tag body ∧ body.length = 5 ∧ s.select body = .ok n) ∨
      (c = .readSlot tag body ∧ body.length = 3 ∧ at8 body 0 = 0 ∧ ∃ x, s.slot (at16 body 1) = some x ∧ x.record = n) ∨
      (c = .readLane tag body ∧ body.length = 1 ∧ 1 ≤ at8 body 0 ∧ at8 body 0 ≤ s.geo.numLanes ∧ n = 959 + at8 body 0) ∨
      (c = .readSession tag body ∧ body.length = 1 ∧ 1 ≤ at8 body 0 ∧ at8 body 0 ≤ s.geo.numPoints ∧
        n = 1023 + at8 body 0) ∨
      (c = .readSetting tag body ∧ body.length = 3 ∧ at8 body 0 = 0 ∧ 1 ≤ at8 body 1 ∧ at8 body 1 ≤ 16 ∧
        at8 body 2 = 0 ∧ n = 1120) →
      ∃ t u, exec c { s with faults := { s.faults with errors := [] } } = .next u ∧ exec c s = .next t ∧
        t = { s with faults := t.faults, notices := t.notices, link := u.link } ∧
        t.faults.errors = [] ∧ t.faults.marks = s.faults.marks ∧ reported t 19 ∧
        (∀ b, t.wear b = if b = n / 32 then
          { count := count n, worn := (s.wear b).worn || decide (s.beh.corrThreshold ≤ count n) } else s.wear b) ∧
        (worn n → s.faults.spare = .free → t.faults.spare = .copying (n / 32) ∧ reported t 21) ∧
        (worn n → s.faults.spare ≠ .free → t.faults.spare = s.faults.spare ∧ reported t 22) ∧
        (¬ worn n → t.faults.spare = s.faults.spare)) ∧
    (∀ v left, s.ready = true → one v (.double left) → v < 320 → (s.vehicle? v).isSome = true → body.length = 5 →
      s.select body = .ok v →
      let r := match left with
        | some h => { s.vehicle v with
            body := h.body, drive := h.drive, capacity := h.capacity, soe := h.soe, acceptance := h.acceptance
            washInterval := h.washInterval, lastWash := h.lastWash, hold := h.hold, passOver := h.passOver }
        | none => s.vehicle v
      let bytes := fun (t : State) =>
        be16 v ++ be16 r.fleet ++ be8 (stateCode (t.vehicle v).state) ++ locBytes (t.vehicle v).loc
      ∃ t, exec (.readVehicle tag body) s = .next t ∧
        t.core = { s.core with link := s.linkAnswering 0x04#8 .damaged tag (bytes t) } ∧
        t.damaged v = true ∧ t.faults.errors = [] ∧ reported t 20 ∧ (∀ w, w ≠ v → t.vehicle? w = s.vehicle? w) ∧
        (∀ k, t.byFleet k = s.byFleet k) ∧ (∀ k, t.byTag k = s.byTag k) ∧
        (r.state ≠ .departing → t.vehicle v = r ∧ t.service = s.service ∧ t.yard = s.yard ∧ t.roster = s.roster) ∧
        (r.state ≠ .departing → s.sessionPoint v = none → t.energy = s.energy ∧ t.bus = s.bus ∧ t.notices.pending =
          s.notices.pending ||| (if t.faults.capture = s.faults.capture then 0#16 else 1#16 <<< 12)) ∧
        (∀ p, r.state ≠ .departing → s.sessionPoint v = some p → t.session p = none ∧
          ((s.point p).cond ≠ none → (t.point p).issued = some 0)) ∧
        (∀ n x c f, r.state = .departing → r.assignment = some n → s.slot n = some x → x.call = some c →
          x.assigned = some (v, f) → r.loc ≠ .apron →
          t.slot n = some { x with state := .assigned, call := none } ∧ (∀ m, m ≠ n → t.slot m = s.slot m) ∧
          t.vehicle v = (match c.place with
            | .lane l p => { r with state := .parked, loc := .lane l p }
            | .spot k => { r with state := .inOverflow, loc := .overflow k })) ∧
        (∀ n x c f, r.state = .departing → r.assignment = some n → s.slot n = some x → x.call = some c →
          x.assigned = some (v, f) → r.loc = .apron →
          t.slot n = some { x with
            state := .gone, last := some (v, f), assigned := none, call := none, unconfirmed := true } ∧
          (∀ m, m ≠ n → t.slot m = s.slot m) ∧ reported t 9 ∧
          t.vehicle v = { r with state := .out, loc := .absent, assignment := none, key := 1440 })) ∧
    (∀ n x, s.ready = true → body.length = 3 → at8 body 0 = 0 → at16 body 1 = n → s.slot n = some x → double x.record →
      320 ≤ x.record → x.record < 960 → (∀ y ∈ s.roster.active, y.record = x.record → y = x) → x.call = none →
      (∀ v f, x.assigned = some (v, f) → (s.vehicle? v).isSome = true) →
      ∃ t, exec (.readSlot tag body) s = .next t ∧
        t.core = { s.core with link := s.linkAnswering 0x65#8 .damaged tag [] } ∧ t.marked x.record = true ∧
        t.faults.errors = [] ∧ reported t 20 ∧
        t.slot n = some { x with
          state := .cancelled
          last := if x.assigned = none then x.last else x.assigned
          assigned := none } ∧
        (∀ m, m ≠ n → t.slot m = s.slot m) ∧ t.roster.staged = s.roster.staged ∧ t.roster.ready = s.roster.ready ∧
        t.service = s.service ∧ t.yard.spots = s.yard.spots ∧ t.yard.stranded = s.yard.stranded ∧
        (∀ v f, x.assigned = some (v, f) → t.vehicle v = { s.vehicle v with assignment := none, key := 1440 }) ∧
        (∀ w, (∀ f, x.assigned ≠ some (w, f)) → t.vehicle? w = s.vehicle? w)) ∧
    (∀ x, s.ready = true → body.length = 3 → at8 body 0 = 1 → s.roster.staged.find? (fun y => y.num == at16 body 1) = some x →
      double x.record → 320 ≤ x.record → x.record < 960 → (∀ y ∈ s.roster.active, y.record ≠ x.record) →
      ∃ t, exec (.readSlot tag body) s = .next t ∧
        t.core = { s.core with link := s.linkAnswering 0x65#8 .damaged tag [] } ∧ t.marked x.record = true ∧
        t.faults.errors = [] ∧ reported t 20 ∧ t.roster = { s.roster with
          staged := s.roster.staged.map (fun y => if y.record = x.record then { y with
            state := .cancelled
            last := if y.assigned = none then y.last else y.assigned
            assigned := none
            call := none } else y) } ∧
        t.fleet = s.fleet ∧ t.service = s.service ∧ t.yard = s.yard ∧ t.energy = s.energy ∧ t.bus = s.bus) ∧
    (∀ l, s.ready = true → body.length = 1 → at8 body 0 = l → 1 ≤ l → l ≤ s.geo.numLanes → l ≤ 64 → double (959 + l) →
      s.fleet.vehicles.wf = true →
      let g := s.geo.lane l
      let bytes := be8 (match g.kind with | .flow => 0 | .dead => 1) ++ be8 g.depth ++
        be8 (match g.cls with | .standard => 0 | .long => 1) ++ be8 g.node ++ be8 g.index ++
        [1, 2, 3, 4, 5, 6, 7, 8].flatMap (fun p => be8 ((g.points.get? p).getD 0)) ++ [2#8]
      ∃ t, exec (.readLane tag body) s = .next t ∧
        t.core = { s.core with link := s.linkAnswering 0x20#8 .damaged tag bytes } ∧ sameMarks t ∧
        t.faults.errors = [] ∧ reported t 20 ∧ t.notices.pending &&& (1#16 <<< 4) ≠ 0#16 ∧
        (t.lane l).state = .unverified ∧ (t.lane l).closing = true ∧
        (t.lane l).image = positionsOf (t.lane l).entries ∧
        (t.lane l).entries.Pairwise (fun a b => a.pos ≤ b.pos) ∧
        (∀ e, e ∈ (t.lane l).entries ↔ ∃ r, s.vehicle? e.vehicle = some r ∧ r.loc = .lane l e.pos ∧
          ((r.state = .parked ∧ e.mark = .settled) ∨ (r.state = .departing ∧ e.mark = .leavingCall) ∨
            (r.state = .toBerth ∧ e.mark = .arriving (s.now + s.beh.moveTimeout)))) ∧
        s.recounted t l ∧
        (∀ k, k ≠ l → t.lane k = s.lane k) ∧ t.yard.spots = s.yard.spots ∧ t.yard.stranded = s.yard.stranded ∧
        t.fleet = s.fleet ∧ t.service = s.service ∧ t.energy = s.energy ∧ t.roster = s.roster ∧ t.bus = s.bus) ∧
    (∀ p x, s.ready = true → body.length = 1 → at8 body 0 = p → 1 ≤ p → p ≤ s.geo.numPoints → s.session p = some x →
      p ≤ 96 → double (1023 + p) →
      let stands := fun (v : Nat) => ∃ e, (s.lane (s.geo.point p).lane).at? (s.geo.point p).pos = some e ∧
        e.vehicle = v ∧ e.mark = .settled ∧ (s.vehicle v).state = .parked
      let opens := fun (v : Nat) => stands v ∧ (s.mode = .running ∨ s.mode = .safe) ∧ s.clock.isSet = true ∧
        ((s.point p).cond = some .connected ∨ (s.point p).cond = some .active) ∧
        (s.point p).stop ≠ some v ∧ (s.vehicle v).drive = .battery ∧ s.damaged v = false
      ∃ t, exec (.readSession tag body) s = .next t ∧
        t.core = { s.core with link := s.linkAnswering 0x42#8 .damaged tag [] } ∧ sameMarks t ∧
        t.faults.errors = [] ∧ reported t 20 ∧ t.jobs = s.jobs ∧
        (∀ v, opens v → ∃ y, t.session p = some y ∧ y.vehicle = v ∧ y.startSoe = (s.vehicle v).soe ∧ y.delivered = 0 ∧
          y.opened = s.now) ∧
        ((∀ v, ¬ opens v) → t.session p = none ∧ ((s.point p).cond ≠ none → (t.point p).issued = some 0))) ∧
    (∀ row, s.ready = true → body.length = 3 → at8 body 0 = 0 → at8 body 1 = row → at8 body 2 = 0 → 1 ≤ row → row ≤ 16 →
      double 1120 →
      let source := if s.store.valid then s.store.copy else .default
      ∃ t r, exec (.readSetting tag body) s = .next t ∧ t.link.service = .inService r none ∧
        r = { code := 0x82#8, status := .done, tag := tag, body := body ++ be16 (source.read (.beh row)) } ∧
        t.mode = .safe ∧ sameMarks t ∧ t.faults.errors = [] ∧ reported t 20 ∧ reported t 23 ∧
        (∀ k, 1 ≤ k → k ≤ 16 → t.settings.read (.beh k) = source.read (.beh k)) ∧
        (s.mode ≠ .configure → t.settings.geo = s.settings.geo) ∧ t.store = s.store ∧ t.fleet = s.fleet ∧ t.roster = s.roster)

/-! ### Invariants of every step -/

/-- R136, R138, R141, R143: every step keeps the bounds of the bus queues, holds a message over only while the queue is full,
and has a message in flight just while it sends. -/
def Obligations.StepsKeepQueues : Prop :=
  ∀ s t : State, s.queuesOk → step s = .next t → t.queuesOk

/-- R87, R91, R98: no step lets the grants of the open sessions add up to more than the effective budget. -/
def Obligations.StepsKeepGrantsInBudget : Prop :=
  ∀ s t : State, s.grantsOk → step s = .next t → t.grantsOk

/-- R177: a step that is no reset changes the mode only as the table of R177 allows. -/
def Obligations.StepsChangeModeByTable : Prop :=
  ∀ (s t : State),
    (∀ rest, s.pending ≠ .powerOnReset :: rest ∧ s.pending ≠ .lineReset :: rest) →
    (∀ rest, s.link.restarting = true → s.pending ≠ .responseComplete :: rest) →
    step s = .next t → modeStep s.mode t.mode

/-- R138, R141, R178: the state right after reset keeps the two invariants. -/
def Obligations.ResetKeepsInvariants : Prop := State.reset.queuesOk ∧ State.reset.grantsOk
end

