-- ==== Sys2Proof/Laws/Tables.lean ====
section
/-! SUPPORT. Tables and lists: what reads what after a write, and that the numbers stay rising. -/

namespace Sys2Proof

variable {α β : Type}

theorem find?_put_same (k : Nat) (a : α) : ∀ l : List (Nat × α),
    (Tab.put k a l).find? (fun r => r.1 == k) = some (k, a)
  | [] => by simp [Tab.put]
  | r :: rs => by
    unfold Tab.put
    split
    · simp
    · split
      · simp
      · next h1 h2 =>
        have hne : (r.1 == k) = false := by simp; omega
        rw [List.find?_cons, hne]
        exact find?_put_same k a rs

theorem find?_put_ne {j k : Nat} (a : α) (h : j ≠ k) : ∀ l : List (Nat × α),
    (Tab.put k a l).find? (fun r => r.1 == j) = l.find? (fun r => r.1 == j)
  | [] => by simp [Tab.put, Ne.symm h]
  | r :: rs => by
    unfold Tab.put
    have hk : (k == j) = false := by simp; omega
    split
    · rw [List.find?_cons]; simp [hk]
    · split
      · next h2 => rw [List.find?_cons, List.find?_cons, ← h2, hk]
      · rw [List.find?_cons, List.find?_cons, find?_put_ne a h rs]

/-- A record reads back as it was written. -/
@[simp] theorem Tab.get?_set_same (t : Tab α) (k : Nat) (a : α) : (t.set k a).get? k = some a := by
  simp [Tab.get?, Tab.set, find?_put_same]
/-- A write leaves every other record alone. -/
theorem Tab.get?_set_ne (t : Tab α) {j k : Nat} (a : α) (h : j ≠ k) : (t.set k a).get? j = t.get? j := by
  simp [Tab.get?, Tab.set, find?_put_ne a h]
@[simp] theorem Tab.getD_set_same (t : Tab α) (k : Nat) (a d : α) : (t.set k a).getD k d = a := by simp [Tab.getD]
theorem Tab.getD_set_ne (t : Tab α) {j k : Nat} (a d : α) (h : j ≠ k) : (t.set k a).getD j d = t.getD j d := by
  simp [Tab.getD, Tab.get?_set_ne t a h]
/-- A number taken out has no record. -/
@[simp] theorem Tab.get?_del_same (t : Tab α) (k : Nat) : (t.del k).get? k = none := by
  simp [Tab.get?, Tab.del, List.find?_filter]
/-- Taking a number out leaves every other record alone. -/
theorem Tab.get?_del_ne (t : Tab α) {j k : Nat} (h : j ≠ k) : (t.del k).get? j = t.get? j := by
  unfold Tab.get? Tab.del
  congr 1
  rw [List.find?_filter]
  congr 1
  funext r
  by_cases hr : r.1 = j <;> simp [hr, h]
@[simp] theorem Tab.get?_put?_same (t : Tab α) (k : Nat) (a : Option α) : (t.put? k a).get? k = a := by
  cases a <;> simp [Tab.put?]
theorem Tab.get?_put?_ne (t : Tab α) {j k : Nat} (a : Option α) (h : j ≠ k) : (t.put? k a).get? j = t.get? j := by
  cases a with
  | none => exact Tab.get?_del_ne t h
  | some a => exact Tab.get?_set_ne t a h
@[simp] theorem Tab.get?_empty (k : Nat) : (Tab.empty : Tab α).get? k = none := rfl
@[simp] theorem Tab.get?_mapRows (t : Tab α) (f : Nat → α → β) (k : Nat) :
    (t.mapRows f).get? k = (t.get? k).map (f k) := by
  unfold Tab.get? Tab.mapRows
  induction t.rows with
  | nil => rfl
  | cons r rs ih =>
    by_cases h : r.1 = k
    · subst h; simp
    · have hk : (r.1 == k) = false := by simpa using h
      simpa [List.find?_cons, hk] using ih

/-- The numbers of a table that a write leaves in it: the old ones and the new one. -/
theorem mem_put {k : Nat} {a : α} {r : Nat × α} : ∀ {l : List (Nat × α)}, r ∈ Tab.put k a l → r = (k, a) ∨ r ∈ l
  | [], h => by simp [Tab.put] at h; exact Or.inl h
  | x :: xs, h => by
    unfold Tab.put at h
    split at h
    · rcases List.mem_cons.mp h with h | h
      · exact Or.inl h
      · exact Or.inr h
    · split at h
      · rcases List.mem_cons.mp h with h | h
        · exact Or.inl h
        · exact Or.inr (List.mem_cons_of_mem _ h)
      · rcases List.mem_cons.mp h with h | h
        · exact Or.inr (h ▸ List.mem_cons_self)
        · rcases mem_put h with h | h
          · exact Or.inl h
          · exact Or.inr (List.mem_cons_of_mem _ h)

theorem pairwise_put (k : Nat) (a : α) : ∀ l : List (Nat × α),
    l.Pairwise (fun x y => x.1 < y.1) → (Tab.put k a l).Pairwise (fun x y => x.1 < y.1)
  | [], _ => by simp [Tab.put]
  | r :: rs, h => by
    have hr := List.pairwise_cons.mp h
    unfold Tab.put
    split
    · next hk =>
      refine List.pairwise_cons.mpr ⟨fun y hy => ?_, h⟩
      rcases List.mem_cons.mp hy with hy | hy
      · rw [hy]; exact hk
      · exact Nat.lt_trans hk (hr.1 y hy)
    · split
      · next hk => exact List.pairwise_cons.mpr ⟨fun y hy => by rw [hk]; exact hr.1 y hy, hr.2⟩
      · refine List.pairwise_cons.mpr ⟨fun y hy => ?_, pairwise_put k a rs hr.2⟩
        rcases mem_put hy with hy | hy
        · subst hy; omega
        · exact hr.1 y hy

/-- A write keeps the numbers rising. -/
theorem Tab.wf_set (t : Tab α) (k : Nat) (a : α) (h : t.wf = true) : (t.set k a).wf = true := by
  simp only [Tab.wf, decide_eq_true_eq] at h ⊢
  exact pairwise_put k a t.rows h
/-- Taking a number out keeps the numbers rising. -/
theorem Tab.wf_del (t : Tab α) (k : Nat) (h : t.wf = true) : (t.del k).wf = true := by
  simp only [Tab.wf, decide_eq_true_eq] at h ⊢
  exact h.filter _
/-- Changing every record keeps the numbers rising. -/
theorem Tab.wf_mapRows (t : Tab α) (f : Nat → α → β) (h : t.wf = true) : (t.mapRows f).wf = true := by
  unfold Tab.wf Tab.mapRows at *
  rw [decide_eq_true_eq] at *
  exact List.pairwise_map.mpr h
theorem Tab.wf_put? (t : Tab α) (k : Nat) (a : Option α) (h : t.wf = true) : (t.put? k a).wf = true := by
  cases a with
  | none => exact Tab.wf_del t k h
  | some a => exact Tab.wf_set t k a h

/-- The numbers of `upTo lo hi`. -/
theorem mem_upTo {lo hi n : Nat} : n ∈ upTo lo hi ↔ lo ≤ n ∧ n ≤ hi := by
  unfold upTo
  simp only [List.mem_map, List.mem_range]
  constructor
  · rintro ⟨i, hi', rfl⟩; omega
  · rintro ⟨h1, h2⟩; exact ⟨n - lo, by omega, by omega⟩

/-- The element of least rank is one of the list. -/
theorem leastBy_mem {rank : α → List Int} : ∀ {l : List α} {a : α}, leastBy rank l = some a → a ∈ l
  | [], _, h => by simp [leastBy] at h
  | x :: xs, a, h => by
    unfold leastBy at h
    split at h
    · cases h; exact List.mem_cons_self
    · next b hb =>
      split at h
      · cases h; exact List.mem_cons_of_mem _ (leastBy_mem hb)
      · cases h; exact List.mem_cons_self
/-- A list that is not empty has an element of least rank. -/
theorem leastBy_none {rank : α → List Int} : ∀ {l : List α}, leastBy rank l = none → l = []
  | [], _ => rfl
  | x :: xs, h => by
    unfold leastBy at h
    split at h
    · cases h
    · split at h <;> cases h

end Sys2Proof
end

