-- ==== Sys2Proof/Laws/State.lean ====
section
/-! SUPPORT. Reading a state after a named update of it: what was written reads back, all else as before. -/

namespace Sys2Proof.Machine

/-! ### Vehicle records -/

theorem State.vehicle?_setVehicle_same (s : State) {v : Nat} (r : Vehicle) (h : (s.vehicle? v).isSome = true) :
    (s.setVehicle v r).vehicle? v = some r := by
  unfold State.setVehicle
  cases hv : s.vehicle? v with
  | none => rw [hv] at h; cases h
  | some x => simp [State.vehicle?]
theorem State.vehicle?_setVehicle_ne (s : State) {v w : Nat} (r : Vehicle) (h : w ≠ v) :
    (s.setVehicle v r).vehicle? w = s.vehicle? w := by
  unfold State.setVehicle
  split
  · exact Tab.get?_set_ne _ _ h
  · rfl
@[simp] theorem State.vehicle?_setVehicle_isSome (s : State) (v w : Nat) (r : Vehicle) :
    ((s.setVehicle v r).vehicle? w).isSome = (s.vehicle? w).isSome := by
  by_cases h : w = v
  · subst h
    cases hv : s.vehicle? w with
    | none => simp [State.setVehicle, hv]
    | some x => rw [State.vehicle?_setVehicle_same s r (by rw [hv]; rfl)]; rfl
  · rw [State.vehicle?_setVehicle_ne s r h]
theorem State.vehicle_setVehicle_ne (s : State) {v w : Nat} (r : Vehicle) (h : w ≠ v) :
    (s.setVehicle v r).vehicle w = s.vehicle w := by
  simp only [State.vehicle, State.vehicle?_setVehicle_ne s r h]
theorem State.vehicle_setVehicle_same (s : State) {v : Nat} (r : Vehicle) (h : (s.vehicle? v).isSome = true) :
    (s.setVehicle v r).vehicle v = r := by
  simp [State.vehicle, State.vehicle?_setVehicle_same s r h]
theorem State.vehicle_updVehicle_same (s : State) {v : Nat} (f : Vehicle → Vehicle) (h : (s.vehicle? v).isSome = true) :
    (s.updVehicle v f).vehicle v = f (s.vehicle v) := State.vehicle_setVehicle_same s _ h
theorem State.vehicle_updVehicle_ne (s : State) {v w : Nat} (f : Vehicle → Vehicle) (h : w ≠ v) :
    (s.updVehicle v f).vehicle w = s.vehicle w := State.vehicle_setVehicle_ne s _ h
theorem State.vehicle_place_same (s : State) {v : Nat} (st : VehState) (loc : Loc) (h : (s.vehicle? v).isSome = true) :
    (s.place v st loc).vehicle v = { s.vehicle v with state := st, loc := loc } := State.vehicle_setVehicle_same s _ h
theorem State.vehicle_place_ne (s : State) {v w : Nat} (st : VehState) (loc : Loc) (h : w ≠ v) :
    (s.place v st loc).vehicle w = s.vehicle w := State.vehicle_setVehicle_ne s _ h
@[simp] theorem State.byFleet_setVehicle (s : State) (v : Nat) (r : Vehicle) (n : Nat) :
    (s.setVehicle v r).byFleet n = s.byFleet n := by unfold State.setVehicle; split <;> rfl
@[simp] theorem State.byTag_setVehicle (s : State) (v : Nat) (r : Vehicle) (n : Nat) :
    (s.setVehicle v r).byTag n = s.byTag n := by unfold State.setVehicle; split <;> rfl

/-! ### Numbered records -/

@[simp] theorem State.lane_setLane_same (s : State) (n : Nat) (r : Lane) : (s.setLane n r).lane n = r :=
  Tab.getD_set_same _ _ _ _
theorem State.lane_setLane_ne (s : State) {m n : Nat} (r : Lane) (h : m ≠ n) : (s.setLane n r).lane m = s.lane m :=
  Tab.getD_set_ne _ _ _ h
@[simp] theorem State.lane_updLane_same (s : State) (n : Nat) (f : Lane → Lane) : (s.updLane n f).lane n = f (s.lane n) :=
  Tab.getD_set_same _ _ _ _
theorem State.lane_updLane_ne (s : State) {m n : Nat} (f : Lane → Lane) (h : m ≠ n) : (s.updLane n f).lane m = s.lane m :=
  Tab.getD_set_ne _ _ _ h
@[simp] theorem State.bay_setBay_same (s : State) (n : Nat) (r : Bay) : (s.setBay n r).bay n = r :=
  Tab.getD_set_same _ _ _ _
theorem State.bay_setBay_ne (s : State) {m n : Nat} (r : Bay) (h : m ≠ n) : (s.setBay n r).bay m = s.bay m :=
  Tab.getD_set_ne _ _ _ h
@[simp] theorem State.bay_updBay_same (s : State) (n : Nat) (f : Bay → Bay) : (s.updBay n f).bay n = f (s.bay n) :=
  Tab.getD_set_same _ _ _ _
theorem State.bay_updBay_ne (s : State) {m n : Nat} (f : Bay → Bay) (h : m ≠ n) : (s.updBay n f).bay m = s.bay m :=
  Tab.getD_set_ne _ _ _ h
@[simp] theorem State.wash_setWash_same (s : State) (n : Nat) (r : Wash) : (s.setWash n r).wash n = r :=
  Tab.getD_set_same _ _ _ _
theorem State.wash_setWash_ne (s : State) {m n : Nat} (r : Wash) (h : m ≠ n) : (s.setWash n r).wash m = s.wash m :=
  Tab.getD_set_ne _ _ _ h
@[simp] theorem State.wash_updWash_same (s : State) (n : Nat) (f : Wash → Wash) : (s.updWash n f).wash n = f (s.wash n) :=
  Tab.getD_set_same _ _ _ _
theorem State.wash_updWash_ne (s : State) {m n : Nat} (f : Wash → Wash) (h : m ≠ n) : (s.updWash n f).wash m = s.wash m :=
  Tab.getD_set_ne _ _ _ h
@[simp] theorem State.point_setPoint_same (s : State) (n : Nat) (r : Point) : (s.setPoint n r).point n = r :=
  Tab.getD_set_same _ _ _ _
theorem State.point_setPoint_ne (s : State) {m n : Nat} (r : Point) (h : m ≠ n) : (s.setPoint n r).point m = s.point m :=
  Tab.getD_set_ne _ _ _ h
@[simp] theorem State.point_updPoint_same (s : State) (n : Nat) (f : Point → Point) : (s.updPoint n f).point n = f (s.point n) :=
  Tab.getD_set_same _ _ _ _
theorem State.point_updPoint_ne (s : State) {m n : Nat} (f : Point → Point) (h : m ≠ n) : (s.updPoint n f).point m = s.point m :=
  Tab.getD_set_ne _ _ _ h
@[simp] theorem State.spot_setSpot_same (s : State) (n : Nat) (r : Option Spot) : (s.setSpot n r).spot n = r :=
  Tab.get?_put?_same _ _ _
theorem State.spot_setSpot_ne (s : State) {m n : Nat} (r : Option Spot) (h : m ≠ n) : (s.setSpot n r).spot m = s.spot m :=
  Tab.get?_put?_ne _ _ h
@[simp] theorem State.pad_setPad_same (s : State) (n : Nat) (r : Option Waiting) : (s.setPad n r).pad n = r :=
  Tab.get?_put?_same _ _ _
theorem State.pad_setPad_ne (s : State) {m n : Nat} (r : Option Waiting) (h : m ≠ n) : (s.setPad n r).pad m = s.pad m :=
  Tab.get?_put?_ne _ _ h
@[simp] theorem State.setEntries_entries (s : State) (l : Nat) (es : List Entry) : ((s.setEntries l es).lane l).entries = es := by
  simp [State.setEntries]
@[simp] theorem State.setStranded_stranded (s : State) (l : List Nat) : (s.setStranded l).yard.stranded = l := rfl
@[simp] theorem State.setActive_active (s : State) (p : List Slot) : (s.setActive p).roster.active = p := rfl
@[simp] theorem State.setActive_staged (s : State) (p : List Slot) : (s.setActive p).roster.staged = s.roster.staged := rfl
@[simp] theorem State.setActive_ready (s : State) (p : List Slot) : (s.setActive p).roster.ready = s.roster.ready := rfl
@[simp] theorem State.setStaged_staged (s : State) (p : List Slot) : (s.setStaged p).roster.staged = p := rfl
@[simp] theorem State.setStaged_active (s : State) (p : List Slot) : (s.setStaged p).roster.active = s.roster.active := rfl
@[simp] theorem State.setStaged_ready (s : State) (p : List Slot) : (s.setStaged p).roster.ready = s.roster.ready := rfl

/-! ### Slots of a plan -/

theorem slotIn_updSlotIn_same (plan : List Slot) (n : Nat) (f : Slot → Slot) (h : ∀ x, (f x).num = x.num) :
    slotIn (updSlotIn plan n f) n = (slotIn plan n).map f := by
  unfold slotIn updSlotIn
  induction plan with
  | nil => rfl
  | cons x xs ih =>
    by_cases hx : x.num = n
    · simp [hx, h]
    · simp [hx] at ih ⊢; exact ih
theorem slotIn_updSlotIn_ne (plan : List Slot) {m n : Nat} (f : Slot → Slot) (h : ∀ x, (f x).num = x.num) (hm : m ≠ n) :
    slotIn (updSlotIn plan n f) m = slotIn plan m := by
  unfold slotIn updSlotIn
  induction plan with
  | nil => rfl
  | cons x xs ih =>
    by_cases hx : x.num = n
    · have hne : ¬ n = m := fun e => hm e.symm
      simp [hx, h, hne] at ih ⊢; exact ih
    · simp only [List.map_cons, if_neg hx, List.find?_cons]
      split
      · rfl
      · exact ih
theorem State.slot_updSlot_same (s : State) (n : Nat) (f : Slot → Slot) (h : ∀ x, (f x).num = x.num) :
    (s.updSlot n f).slot n = (s.slot n).map f := slotIn_updSlotIn_same _ _ _ h
theorem State.slot_updSlot_ne (s : State) {m n : Nat} (f : Slot → Slot) (h : ∀ x, (f x).num = x.num) (hm : m ≠ n) :
    (s.updSlot n f).slot m = s.slot m := slotIn_updSlotIn_ne _ _ h hm

/-! ### Notices and faults -/

/-- R159: raising a kind sets its pending flag and no other. -/
theorem State.raise_pending (s : State) (k : NoticeKind) :
    (s.raise k).notices.pending = s.notices.pending ||| (1#16 <<< k.num) := rfl
@[simp] theorem State.raise_enables (s : State) (k : NoticeKind) : (s.raise k).notices.enables = s.notices.enables := rfl
@[simp] theorem State.raise_urgents (s : State) (k : NoticeKind) : (s.raise k).notices.urgents = s.notices.urgents := rfl
/-- R166: every report sets its code's bit of the summary and no other. -/
theorem State.report_summary (s : State) (c : FaultCode) (n : Nat) :
    (s.report c n).faults.summary = s.faults.summary ||| (1#32 <<< c.num) := by
  unfold State.report; dsimp only; split <;> rfl
/-- R165: a report takes an empty capture, or one of a lower class; else the capture stands. -/
theorem State.report_capture (s : State) (c : FaultCode) (n : Nat) :
    (s.report c n).faults.capture =
      if takesCapture s.faults.capture c then some { code := c, subject := n, time := s.time } else s.faults.capture := by
  unfold State.report; dsimp only; split <;> simp_all [State.raise]
/-- R166: a report that finds the capture held counts, up to 255. -/
theorem State.report_count (s : State) (c : FaultCode) (n : Nat) :
    (s.report c n).faults.count = if s.faults.capture.isNone then s.faults.count else min 255 (s.faults.count + 1) := by
  unfold State.report; dsimp only; split <;> rfl
@[simp] theorem State.report_marks (s : State) (c : FaultCode) (n : Nat) : (s.report c n).faults.marks = s.faults.marks := by
  unfold State.report; dsimp only; split <;> rfl
@[simp] theorem State.report_errors (s : State) (c : FaultCode) (n : Nat) : (s.report c n).faults.errors = s.faults.errors := by
  unfold State.report; dsimp only; split <;> rfl
@[simp] theorem State.report_wear (s : State) (c : FaultCode) (n : Nat) : (s.report c n).faults.wear = s.faults.wear := by
  unfold State.report; dsimp only; split <;> rfl
@[simp] theorem State.report_spare (s : State) (c : FaultCode) (n : Nat) : (s.report c n).faults.spare = s.faults.spare := by
  unfold State.report; dsimp only; split <;> rfl
/-- R165: a report raises FAULT-CAPTURED when it takes the capture, and nothing else. -/
theorem State.report_notices (s : State) (c : FaultCode) (n : Nat) :
    (s.report c n).notices = if takesCapture s.faults.capture c then (s.raise .faultCaptured).notices else s.notices := by
  unfold State.report; dsimp only; split <;> rfl
/-- R170, R171: a record that is marked, or has no error, passes its check unchanged, at any depth of checks within
checks. -/
theorem State.checkWith_passes (fuel : Nat) (s : State) (n : Nat)
    (h : s.marked n = true ∨ s.faults.errors.all (fun e => e.record != n) = true) : State.checkWith fuel s n = s := by
  cases fuel with
  | zero => rfl
  | succ fuel =>
    unfold State.checkWith
    rcases h with h | h
    · simp [h]
    · split
      · rfl
      · have : s.faults.errors.find? (fun e => e.record == n) = none := by
          rw [List.find?_eq_none]
          intro e he
          have := List.all_eq_true.mp h e he
          simpa using this
        simp [this]
/-- R170, R171: a record that is marked, or has no error, passes its check unchanged. -/
theorem State.checkRecord_passes (s : State) (n : Nat)
    (h : s.marked n = true ∨ s.faults.errors.all (fun e => e.record != n) = true) : s.checkRecord n = s :=
  State.checkWith_passes _ s n h
/-- R171: the one error of the records, where a check comes to it: it is gone, and it is corrected and counted, or reported
and dealt with. The reads within that check find nothing. -/
theorem State.checkRecord_one (s : State) (n : Nat) (k : ErrKind) (hm : s.marked n = false)
    (he : s.faults.errors = [{ record := n, kind := k }]) :
    s.checkRecord n =
      match k with
      | .single => ((s.freshen n).report .m1 n).countCorrection (n / 32)
      | .double left =>
        if (s.freshen n).inUse n then
          State.actOnDamage (((s.freshen n).mark n |>.report .m2 n).leaveFields n left) n
        else (s.freshen n).report .m2 n := by
  have hl : s.faults.errors.length = 1 := by simp [he]
  have hs : s.faults.errors.find? (fun e => e.record == n) = some { record := n, kind := k } := by simp [he]
  unfold State.checkRecord
  rw [hl]
  simp only [State.checkWith, hm, hs, Bool.false_eq_true, if_false]
  cases k with
  | single => rfl
  | double left =>
    simp only []
    split
    · congr 1
      exact List.foldl_fixed _
    · rfl

end Sys2Proof.Machine
end

