-- ==== Sys2Proof/Laws/Views.lean ====
section
/-! SUPPORT. Views of a state: the parts of it that an operation of a job block leaves alone, as one equation. -/

namespace Sys2Proof.Machine

theorem mode_of_core {s t : State} (h : s.core = t.core) : s.mode = t.mode := congrArg Core.mode h
theorem startup_of_core {s t : State} (h : s.core = t.core) : s.startup = t.startup := congrArg Core.startup h
theorem clock_of_core {s t : State} (h : s.core = t.core) : s.clock = t.clock := congrArg Core.clock h
theorem settings_of_core {s t : State} (h : s.core = t.core) : s.settings = t.settings := congrArg Core.settings h
theorem store_of_core {s t : State} (h : s.core = t.core) : s.store = t.store := congrArg Core.store h
theorem link_of_core {s t : State} (h : s.core = t.core) : s.link = t.link := congrArg Core.link h
theorem pending_of_core {s t : State} (h : s.core = t.core) : s.pending = t.pending := congrArg Core.pending h
theorem inbound_of_core {s t : State} (h : s.core = t.core) : s.bus.inbound = t.bus.inbound := congrArg Core.inbound h
theorem nodes_of_core {s t : State} (h : s.core = t.core) : s.bus.nodes = t.bus.nodes := congrArg Core.nodes h
theorem fleet_of_jobs {s t : State} (h : s.jobs = t.jobs) : s.fleet = t.fleet := congrArg Jobs.fleet h
theorem service_of_jobs {s t : State} (h : s.jobs = t.jobs) : s.service = t.service := congrArg Jobs.service h
theorem yard_of_jobs {s t : State} (h : s.jobs = t.jobs) : s.yard = t.yard := congrArg Jobs.yard h
theorem roster_of_jobs {s t : State} (h : s.jobs = t.jobs) : s.roster = t.roster := congrArg Jobs.roster h

/-- What every step of a fold keeps, the fold keeps. -/
theorem foldl_keeps {α σ β : Type} (view : σ → β) (f : σ → α → σ) (h : ∀ s a, view (f s a) = view s) :
    ∀ (l : List α) (s : σ), view (l.foldl f s) = view s
  | [], _ => rfl
  | a :: l, s => (foldl_keeps view f h l (f s a)).trans (h s a)

end Sys2Proof.Machine
end

