-- ==== Sys2Proof/Laws/Ops.lean ====
section
/-! SUPPORT. What each operation of the shared operations leaves alone: one lemma per view. -/

namespace Sys2Proof.Machine

@[simp] theorem foldl_core {α : Type} (f : State → α → State) (h : ∀ s a, (f s a).core = s.core) (l : List α)
    (s : State) : (l.foldl f s).core = s.core := foldl_keeps State.core f h l s
@[simp] theorem foldl_jobs {α : Type} (f : State → α → State) (h : ∀ s a, (f s a).jobs = s.jobs) (l : List α)
    (s : State) : (l.foldl f s).jobs = s.jobs := foldl_keeps State.jobs f h l s
@[simp] theorem foldl_fleet {α : Type} (f : State → α → State) (h : ∀ s a, (f s a).fleet = s.fleet) (l : List α)
    (s : State) : (l.foldl f s).fleet = s.fleet := foldl_keeps State.fleet f h l s
@[simp] theorem foldl_service {α : Type} (f : State → α → State) (h : ∀ s a, (f s a).service = s.service)
    (l : List α) (s : State) : (l.foldl f s).service = s.service := foldl_keeps State.service f h l s
@[simp] theorem foldl_yard {α : Type} (f : State → α → State) (h : ∀ s a, (f s a).yard = s.yard) (l : List α)
    (s : State) : (l.foldl f s).yard = s.yard := foldl_keeps State.yard f h l s
@[simp] theorem foldl_energy {α : Type} (f : State → α → State) (h : ∀ s a, (f s a).energy = s.energy) (l : List α)
    (s : State) : (l.foldl f s).energy = s.energy := foldl_keeps State.energy f h l s
@[simp] theorem foldl_roster {α : Type} (f : State → α → State) (h : ∀ s a, (f s a).roster = s.roster) (l : List α)
    (s : State) : (l.foldl f s).roster = s.roster := foldl_keeps State.roster f h l s
@[simp] theorem foldl_bus {α : Type} (f : State → α → State) (h : ∀ s a, (f s a).bus = s.bus) (l : List α)
    (s : State) : (l.foldl f s).bus = s.bus := foldl_keeps State.bus f h l s
@[simp] theorem foldl_notices {α : Type} (f : State → α → State) (h : ∀ s a, (f s a).notices = s.notices)
    (l : List α) (s : State) : (l.foldl f s).notices = s.notices := foldl_keeps State.notices f h l s
@[simp] theorem foldl_faults {α : Type} (f : State → α → State) (h : ∀ s a, (f s a).faults = s.faults) (l : List α)
    (s : State) : (l.foldl f s).faults = s.faults := foldl_keeps State.faults f h l s
@[simp] theorem State.setVehicle_core (s : State) (v : Nat) (r : Vehicle) :
    (s.setVehicle v r).core = s.core := by unfold State.setVehicle; split <;> rfl
@[simp] theorem State.setVehicle_service (s : State) (v : Nat) (r : Vehicle) :
    (s.setVehicle v r).service = s.service := by unfold State.setVehicle; split <;> rfl
@[simp] theorem State.setVehicle_yard (s : State) (v : Nat) (r : Vehicle) :
    (s.setVehicle v r).yard = s.yard := by unfold State.setVehicle; split <;> rfl
@[simp] theorem State.setVehicle_energy (s : State) (v : Nat) (r : Vehicle) :
    (s.setVehicle v r).energy = s.energy := by unfold State.setVehicle; split <;> rfl
@[simp] theorem State.setVehicle_roster (s : State) (v : Nat) (r : Vehicle) :
    (s.setVehicle v r).roster = s.roster := by unfold State.setVehicle; split <;> rfl
@[simp] theorem State.setVehicle_bus (s : State) (v : Nat) (r : Vehicle) :
    (s.setVehicle v r).bus = s.bus := by unfold State.setVehicle; split <;> rfl
@[simp] theorem State.setVehicle_notices (s : State) (v : Nat) (r : Vehicle) :
    (s.setVehicle v r).notices = s.notices := by unfold State.setVehicle; split <;> rfl
@[simp] theorem State.setVehicle_faults (s : State) (v : Nat) (r : Vehicle) :
    (s.setVehicle v r).faults = s.faults := by unfold State.setVehicle; split <;> rfl
@[simp] theorem State.updVehicle_core (s : State) (v : Nat) (f : Vehicle → Vehicle) :
    (s.updVehicle v f).core = s.core := by
  unfold State.updVehicle; (try dsimp only); (repeat' split) <;> first | (simp; done) | (simp; rfl) | rfl |
      exact foldl_keeps State.core _ (fun _ _ => by simp) _ _
@[simp] theorem State.updVehicle_service (s : State) (v : Nat) (f : Vehicle → Vehicle) :
    (s.updVehicle v f).service = s.service := by
  unfold State.updVehicle; (try dsimp only); (repeat' split) <;> first | (simp; done) | (simp; rfl) | rfl |
      exact foldl_keeps State.service _ (fun _ _ => by simp) _ _
@[simp] theorem State.updVehicle_yard (s : State) (v : Nat) (f : Vehicle → Vehicle) :
    (s.updVehicle v f).yard = s.yard := by
  unfold State.updVehicle; (try dsimp only); (repeat' split) <;> first | (simp; done) | (simp; rfl) | rfl |
      exact foldl_keeps State.yard _ (fun _ _ => by simp) _ _
@[simp] theorem State.updVehicle_energy (s : State) (v : Nat) (f : Vehicle → Vehicle) :
    (s.updVehicle v f).energy = s.energy := by
  unfold State.updVehicle; (try dsimp only); (repeat' split) <;> first | (simp; done) | (simp; rfl) | rfl |
      exact foldl_keeps State.energy _ (fun _ _ => by simp) _ _
@[simp] theorem State.updVehicle_roster (s : State) (v : Nat) (f : Vehicle → Vehicle) :
    (s.updVehicle v f).roster = s.roster := by
  unfold State.updVehicle; (try dsimp only); (repeat' split) <;> first | (simp; done) | (simp; rfl) | rfl |
      exact foldl_keeps State.roster _ (fun _ _ => by simp) _ _
@[simp] theorem State.updVehicle_bus (s : State) (v : Nat) (f : Vehicle → Vehicle) :
    (s.updVehicle v f).bus = s.bus := by
  unfold State.updVehicle; (try dsimp only); (repeat' split) <;> first | (simp; done) | (simp; rfl) | rfl |
      exact foldl_keeps State.bus _ (fun _ _ => by simp) _ _
@[simp] theorem State.updVehicle_notices (s : State) (v : Nat) (f : Vehicle → Vehicle) :
    (s.updVehicle v f).notices = s.notices := by
  unfold State.updVehicle; (try dsimp only); (repeat' split) <;> first | (simp; done) | (simp; rfl) | rfl |
      exact foldl_keeps State.notices _ (fun _ _ => by simp) _ _
@[simp] theorem State.updVehicle_faults (s : State) (v : Nat) (f : Vehicle → Vehicle) :
    (s.updVehicle v f).faults = s.faults := by
  unfold State.updVehicle; (try dsimp only); (repeat' split) <;> first | (simp; done) | (simp; rfl) | rfl |
      exact foldl_keeps State.faults _ (fun _ _ => by simp) _ _
@[simp] theorem State.place_core (s : State) (v : Nat) (st : VehState) (loc : Loc) :
    (s.place v st loc).core = s.core := by
  unfold State.place; (try dsimp only); (repeat' split) <;> first | (simp; done) | (simp; rfl) | rfl |
      exact foldl_keeps State.core _ (fun _ _ => by simp) _ _
@[simp] theorem State.place_service (s : State) (v : Nat) (st : VehState) (loc : Loc) :
    (s.place v st loc).service = s.service := by
  unfold State.place; (try dsimp only); (repeat' split) <;> first | (simp; done) | (simp; rfl) | rfl |
      exact foldl_keeps State.service _ (fun _ _ => by simp) _ _
@[simp] theorem State.place_yard (s : State) (v : Nat) (st : VehState) (loc : Loc) :
    (s.place v st loc).yard = s.yard := by
  unfold State.place; (try dsimp only); (repeat' split) <;> first | (simp; done) | (simp; rfl) | rfl |
      exact foldl_keeps State.yard _ (fun _ _ => by simp) _ _
@[simp] theorem State.place_energy (s : State) (v : Nat) (st : VehState) (loc : Loc) :
    (s.place v st loc).energy = s.energy := by
  unfold State.place; (try dsimp only); (repeat' split) <;> first | (simp; done) | (simp; rfl) | rfl |
      exact foldl_keeps State.energy _ (fun _ _ => by simp) _ _
@[simp] theorem State.place_roster (s : State) (v : Nat) (st : VehState) (loc : Loc) :
    (s.place v st loc).roster = s.roster := by
  unfold State.place; (try dsimp only); (repeat' split) <;> first | (simp; done) | (simp; rfl) | rfl |
      exact foldl_keeps State.roster _ (fun _ _ => by simp) _ _
@[simp] theorem State.place_bus (s : State) (v : Nat) (st : VehState) (loc : Loc) :
    (s.place v st loc).bus = s.bus := by
  unfold State.place; (try dsimp only); (repeat' split) <;> first | (simp; done) | (simp; rfl) | rfl |
      exact foldl_keeps State.bus _ (fun _ _ => by simp) _ _
@[simp] theorem State.place_notices (s : State) (v : Nat) (st : VehState) (loc : Loc) :
    (s.place v st loc).notices = s.notices := by
  unfold State.place; (try dsimp only); (repeat' split) <;> first | (simp; done) | (simp; rfl) | rfl |
      exact foldl_keeps State.notices _ (fun _ _ => by simp) _ _
@[simp] theorem State.place_faults (s : State) (v : Nat) (st : VehState) (loc : Loc) :
    (s.place v st loc).faults = s.faults := by
  unfold State.place; (try dsimp only); (repeat' split) <;> first | (simp; done) | (simp; rfl) | rfl |
      exact foldl_keeps State.faults _ (fun _ _ => by simp) _ _
@[simp] theorem State.setLane_core (s : State) (l : Nat) (r : Lane) :
    (s.setLane l r).core = s.core := rfl
@[simp] theorem State.setLane_fleet (s : State) (l : Nat) (r : Lane) :
    (s.setLane l r).fleet = s.fleet := rfl
@[simp] theorem State.setLane_service (s : State) (l : Nat) (r : Lane) :
    (s.setLane l r).service = s.service := rfl
@[simp] theorem State.setLane_energy (s : State) (l : Nat) (r : Lane) :
    (s.setLane l r).energy = s.energy := rfl
@[simp] theorem State.setLane_roster (s : State) (l : Nat) (r : Lane) :
    (s.setLane l r).roster = s.roster := rfl
@[simp] theorem State.setLane_bus (s : State) (l : Nat) (r : Lane) :
    (s.setLane l r).bus = s.bus := rfl
@[simp] theorem State.setLane_notices (s : State) (l : Nat) (r : Lane) :
    (s.setLane l r).notices = s.notices := rfl
@[simp] theorem State.setLane_faults (s : State) (l : Nat) (r : Lane) :
    (s.setLane l r).faults = s.faults := rfl
@[simp] theorem State.updLane_core (s : State) (l : Nat) (f : Lane → Lane) :
    (s.updLane l f).core = s.core := rfl
@[simp] theorem State.updLane_fleet (s : State) (l : Nat) (f : Lane → Lane) :
    (s.updLane l f).fleet = s.fleet := rfl
@[simp] theorem State.updLane_service (s : State) (l : Nat) (f : Lane → Lane) :
    (s.updLane l f).service = s.service := rfl
@[simp] theorem State.updLane_energy (s : State) (l : Nat) (f : Lane → Lane) :
    (s.updLane l f).energy = s.energy := rfl
@[simp] theorem State.updLane_roster (s : State) (l : Nat) (f : Lane → Lane) :
    (s.updLane l f).roster = s.roster := rfl
@[simp] theorem State.updLane_bus (s : State) (l : Nat) (f : Lane → Lane) :
    (s.updLane l f).bus = s.bus := rfl
@[simp] theorem State.updLane_notices (s : State) (l : Nat) (f : Lane → Lane) :
    (s.updLane l f).notices = s.notices := rfl
@[simp] theorem State.updLane_faults (s : State) (l : Nat) (f : Lane → Lane) :
    (s.updLane l f).faults = s.faults := rfl
@[simp] theorem State.setEntries_core (s : State) (l : Nat) (es : List Entry) :
    (s.setEntries l es).core = s.core := rfl
@[simp] theorem State.setEntries_fleet (s : State) (l : Nat) (es : List Entry) :
    (s.setEntries l es).fleet = s.fleet := rfl
@[simp] theorem State.setEntries_service (s : State) (l : Nat) (es : List Entry) :
    (s.setEntries l es).service = s.service := rfl
@[simp] theorem State.setEntries_energy (s : State) (l : Nat) (es : List Entry) :
    (s.setEntries l es).energy = s.energy := rfl
@[simp] theorem State.setEntries_roster (s : State) (l : Nat) (es : List Entry) :
    (s.setEntries l es).roster = s.roster := rfl
@[simp] theorem State.setEntries_bus (s : State) (l : Nat) (es : List Entry) :
    (s.setEntries l es).bus = s.bus := rfl
@[simp] theorem State.setEntries_notices (s : State) (l : Nat) (es : List Entry) :
    (s.setEntries l es).notices = s.notices := rfl
@[simp] theorem State.setEntries_faults (s : State) (l : Nat) (es : List Entry) :
    (s.setEntries l es).faults = s.faults := rfl
@[simp] theorem State.setSpot_core (s : State) (n : Nat) (x : Option Spot) :
    (s.setSpot n x).core = s.core := rfl
@[simp] theorem State.setSpot_fleet (s : State) (n : Nat) (x : Option Spot) :
    (s.setSpot n x).fleet = s.fleet := rfl
@[simp] theorem State.setSpot_service (s : State) (n : Nat) (x : Option Spot) :
    (s.setSpot n x).service = s.service := rfl
@[simp] theorem State.setSpot_energy (s : State) (n : Nat) (x : Option Spot) :
    (s.setSpot n x).energy = s.energy := rfl
@[simp] theorem State.setSpot_roster (s : State) (n : Nat) (x : Option Spot) :
    (s.setSpot n x).roster = s.roster := rfl
@[simp] theorem State.setSpot_bus (s : State) (n : Nat) (x : Option Spot) :
    (s.setSpot n x).bus = s.bus := rfl
@[simp] theorem State.setSpot_notices (s : State) (n : Nat) (x : Option Spot) :
    (s.setSpot n x).notices = s.notices := rfl
@[simp] theorem State.setSpot_faults (s : State) (n : Nat) (x : Option Spot) :
    (s.setSpot n x).faults = s.faults := rfl
@[simp] theorem State.setStranded_core (s : State) (l : List Nat) :
    (s.setStranded l).core = s.core := rfl
@[simp] theorem State.setStranded_fleet (s : State) (l : List Nat) :
    (s.setStranded l).fleet = s.fleet := rfl
@[simp] theorem State.setStranded_service (s : State) (l : List Nat) :
    (s.setStranded l).service = s.service := rfl
@[simp] theorem State.setStranded_energy (s : State) (l : List Nat) :
    (s.setStranded l).energy = s.energy := rfl
@[simp] theorem State.setStranded_roster (s : State) (l : List Nat) :
    (s.setStranded l).roster = s.roster := rfl
@[simp] theorem State.setStranded_bus (s : State) (l : List Nat) :
    (s.setStranded l).bus = s.bus := rfl
@[simp] theorem State.setStranded_notices (s : State) (l : List Nat) :
    (s.setStranded l).notices = s.notices := rfl
@[simp] theorem State.setStranded_faults (s : State) (l : List Nat) :
    (s.setStranded l).faults = s.faults := rfl
@[simp] theorem State.setBay_core (s : State) (b : Nat) (r : Bay) :
    (s.setBay b r).core = s.core := rfl
@[simp] theorem State.setBay_fleet (s : State) (b : Nat) (r : Bay) :
    (s.setBay b r).fleet = s.fleet := rfl
@[simp] theorem State.setBay_yard (s : State) (b : Nat) (r : Bay) :
    (s.setBay b r).yard = s.yard := rfl
@[simp] theorem State.setBay_energy (s : State) (b : Nat) (r : Bay) :
    (s.setBay b r).energy = s.energy := rfl
@[simp] theorem State.setBay_roster (s : State) (b : Nat) (r : Bay) :
    (s.setBay b r).roster = s.roster := rfl
@[simp] theorem State.setBay_bus (s : State) (b : Nat) (r : Bay) :
    (s.setBay b r).bus = s.bus := rfl
@[simp] theorem State.setBay_notices (s : State) (b : Nat) (r : Bay) :
    (s.setBay b r).notices = s.notices := rfl
@[simp] theorem State.setBay_faults (s : State) (b : Nat) (r : Bay) :
    (s.setBay b r).faults = s.faults := rfl
@[simp] theorem State.updBay_core (s : State) (b : Nat) (f : Bay → Bay) :
    (s.updBay b f).core = s.core := rfl
@[simp] theorem State.updBay_fleet (s : State) (b : Nat) (f : Bay → Bay) :
    (s.updBay b f).fleet = s.fleet := rfl
@[simp] theorem State.updBay_yard (s : State) (b : Nat) (f : Bay → Bay) :
    (s.updBay b f).yard = s.yard := rfl
@[simp] theorem State.updBay_energy (s : State) (b : Nat) (f : Bay → Bay) :
    (s.updBay b f).energy = s.energy := rfl
@[simp] theorem State.updBay_roster (s : State) (b : Nat) (f : Bay → Bay) :
    (s.updBay b f).roster = s.roster := rfl
@[simp] theorem State.updBay_bus (s : State) (b : Nat) (f : Bay → Bay) :
    (s.updBay b f).bus = s.bus := rfl
@[simp] theorem State.updBay_notices (s : State) (b : Nat) (f : Bay → Bay) :
    (s.updBay b f).notices = s.notices := rfl
@[simp] theorem State.updBay_faults (s : State) (b : Nat) (f : Bay → Bay) :
    (s.updBay b f).faults = s.faults := rfl
@[simp] theorem State.setWash_core (s : State) (l : Nat) (r : Wash) :
    (s.setWash l r).core = s.core := rfl
@[simp] theorem State.setWash_fleet (s : State) (l : Nat) (r : Wash) :
    (s.setWash l r).fleet = s.fleet := rfl
@[simp] theorem State.setWash_yard (s : State) (l : Nat) (r : Wash) :
    (s.setWash l r).yard = s.yard := rfl
@[simp] theorem State.setWash_energy (s : State) (l : Nat) (r : Wash) :
    (s.setWash l r).energy = s.energy := rfl
@[simp] theorem State.setWash_roster (s : State) (l : Nat) (r : Wash) :
    (s.setWash l r).roster = s.roster := rfl
@[simp] theorem State.setWash_bus (s : State) (l : Nat) (r : Wash) :
    (s.setWash l r).bus = s.bus := rfl
@[simp] theorem State.setWash_notices (s : State) (l : Nat) (r : Wash) :
    (s.setWash l r).notices = s.notices := rfl
@[simp] theorem State.setWash_faults (s : State) (l : Nat) (r : Wash) :
    (s.setWash l r).faults = s.faults := rfl
@[simp] theorem State.updWash_core (s : State) (l : Nat) (f : Wash → Wash) :
    (s.updWash l f).core = s.core := rfl
@[simp] theorem State.updWash_fleet (s : State) (l : Nat) (f : Wash → Wash) :
    (s.updWash l f).fleet = s.fleet := rfl
@[simp] theorem State.updWash_yard (s : State) (l : Nat) (f : Wash → Wash) :
    (s.updWash l f).yard = s.yard := rfl
@[simp] theorem State.updWash_energy (s : State) (l : Nat) (f : Wash → Wash) :
    (s.updWash l f).energy = s.energy := rfl
@[simp] theorem State.updWash_roster (s : State) (l : Nat) (f : Wash → Wash) :
    (s.updWash l f).roster = s.roster := rfl
@[simp] theorem State.updWash_bus (s : State) (l : Nat) (f : Wash → Wash) :
    (s.updWash l f).bus = s.bus := rfl
@[simp] theorem State.updWash_notices (s : State) (l : Nat) (f : Wash → Wash) :
    (s.updWash l f).notices = s.notices := rfl
@[simp] theorem State.updWash_faults (s : State) (l : Nat) (f : Wash → Wash) :
    (s.updWash l f).faults = s.faults := rfl
@[simp] theorem State.setGateQueue_core (s : State) (g : Nat) (q : List Waiting) :
    (s.setGateQueue g q).core = s.core := by unfold State.setGateQueue; split <;> rfl
@[simp] theorem State.setGateQueue_fleet (s : State) (g : Nat) (q : List Waiting) :
    (s.setGateQueue g q).fleet = s.fleet := by unfold State.setGateQueue; split <;> rfl
@[simp] theorem State.setGateQueue_yard (s : State) (g : Nat) (q : List Waiting) :
    (s.setGateQueue g q).yard = s.yard := by unfold State.setGateQueue; split <;> rfl
@[simp] theorem State.setGateQueue_energy (s : State) (g : Nat) (q : List Waiting) :
    (s.setGateQueue g q).energy = s.energy := by unfold State.setGateQueue; split <;> rfl
@[simp] theorem State.setGateQueue_roster (s : State) (g : Nat) (q : List Waiting) :
    (s.setGateQueue g q).roster = s.roster := by unfold State.setGateQueue; split <;> rfl
@[simp] theorem State.setGateQueue_bus (s : State) (g : Nat) (q : List Waiting) :
    (s.setGateQueue g q).bus = s.bus := by unfold State.setGateQueue; split <;> rfl
@[simp] theorem State.setGateQueue_notices (s : State) (g : Nat) (q : List Waiting) :
    (s.setGateQueue g q).notices = s.notices := by unfold State.setGateQueue; split <;> rfl
@[simp] theorem State.setGateQueue_faults (s : State) (g : Nat) (q : List Waiting) :
    (s.setGateQueue g q).faults = s.faults := by unfold State.setGateQueue; split <;> rfl
@[simp] theorem State.setPad_core (s : State) (p : Nat) (w : Option Waiting) :
    (s.setPad p w).core = s.core := rfl
@[simp] theorem State.setPad_fleet (s : State) (p : Nat) (w : Option Waiting) :
    (s.setPad p w).fleet = s.fleet := rfl
@[simp] theorem State.setPad_yard (s : State) (p : Nat) (w : Option Waiting) :
    (s.setPad p w).yard = s.yard := rfl
@[simp] theorem State.setPad_energy (s : State) (p : Nat) (w : Option Waiting) :
    (s.setPad p w).energy = s.energy := rfl
@[simp] theorem State.setPad_roster (s : State) (p : Nat) (w : Option Waiting) :
    (s.setPad p w).roster = s.roster := rfl
@[simp] theorem State.setPad_bus (s : State) (p : Nat) (w : Option Waiting) :
    (s.setPad p w).bus = s.bus := rfl
@[simp] theorem State.setPad_notices (s : State) (p : Nat) (w : Option Waiting) :
    (s.setPad p w).notices = s.notices := rfl
@[simp] theorem State.setPad_faults (s : State) (p : Nat) (w : Option Waiting) :
    (s.setPad p w).faults = s.faults := rfl
@[simp] theorem State.setPoint_core (s : State) (p : Nat) (r : Point) :
    (s.setPoint p r).core = s.core := rfl
@[simp] theorem State.setPoint_jobs (s : State) (p : Nat) (r : Point) :
    (s.setPoint p r).jobs = s.jobs := rfl
@[simp] theorem State.setPoint_bus (s : State) (p : Nat) (r : Point) :
    (s.setPoint p r).bus = s.bus := rfl
@[simp] theorem State.setPoint_notices (s : State) (p : Nat) (r : Point) :
    (s.setPoint p r).notices = s.notices := rfl
@[simp] theorem State.setPoint_faults (s : State) (p : Nat) (r : Point) :
    (s.setPoint p r).faults = s.faults := rfl
@[simp] theorem State.setPoint_fleet (s : State) (p : Nat) (r : Point) :
    (s.setPoint p r).fleet = s.fleet := fleet_of_jobs (by simp)
@[simp] theorem State.setPoint_service (s : State) (p : Nat) (r : Point) :
    (s.setPoint p r).service = s.service := service_of_jobs (by simp)
@[simp] theorem State.setPoint_yard (s : State) (p : Nat) (r : Point) :
    (s.setPoint p r).yard = s.yard := yard_of_jobs (by simp)
@[simp] theorem State.setPoint_roster (s : State) (p : Nat) (r : Point) :
    (s.setPoint p r).roster = s.roster := roster_of_jobs (by simp)
@[simp] theorem State.updPoint_core (s : State) (p : Nat) (f : Point → Point) :
    (s.updPoint p f).core = s.core := rfl
@[simp] theorem State.updPoint_jobs (s : State) (p : Nat) (f : Point → Point) :
    (s.updPoint p f).jobs = s.jobs := rfl
@[simp] theorem State.updPoint_bus (s : State) (p : Nat) (f : Point → Point) :
    (s.updPoint p f).bus = s.bus := rfl
@[simp] theorem State.updPoint_notices (s : State) (p : Nat) (f : Point → Point) :
    (s.updPoint p f).notices = s.notices := rfl
@[simp] theorem State.updPoint_faults (s : State) (p : Nat) (f : Point → Point) :
    (s.updPoint p f).faults = s.faults := rfl
@[simp] theorem State.updPoint_fleet (s : State) (p : Nat) (f : Point → Point) :
    (s.updPoint p f).fleet = s.fleet := fleet_of_jobs (by simp)
@[simp] theorem State.updPoint_service (s : State) (p : Nat) (f : Point → Point) :
    (s.updPoint p f).service = s.service := service_of_jobs (by simp)
@[simp] theorem State.updPoint_yard (s : State) (p : Nat) (f : Point → Point) :
    (s.updPoint p f).yard = s.yard := yard_of_jobs (by simp)
@[simp] theorem State.updPoint_roster (s : State) (p : Nat) (f : Point → Point) :
    (s.updPoint p f).roster = s.roster := roster_of_jobs (by simp)
@[simp] theorem State.updSession_core (s : State) (p : Nat) (f : Session → Session) :
    (s.updSession p f).core = s.core := rfl
@[simp] theorem State.updSession_jobs (s : State) (p : Nat) (f : Session → Session) :
    (s.updSession p f).jobs = s.jobs := rfl
@[simp] theorem State.updSession_bus (s : State) (p : Nat) (f : Session → Session) :
    (s.updSession p f).bus = s.bus := rfl
@[simp] theorem State.updSession_notices (s : State) (p : Nat) (f : Session → Session) :
    (s.updSession p f).notices = s.notices := rfl
@[simp] theorem State.updSession_faults (s : State) (p : Nat) (f : Session → Session) :
    (s.updSession p f).faults = s.faults := rfl
@[simp] theorem State.updSession_fleet (s : State) (p : Nat) (f : Session → Session) :
    (s.updSession p f).fleet = s.fleet := fleet_of_jobs (by simp)
@[simp] theorem State.updSession_service (s : State) (p : Nat) (f : Session → Session) :
    (s.updSession p f).service = s.service := service_of_jobs (by simp)
@[simp] theorem State.updSession_yard (s : State) (p : Nat) (f : Session → Session) :
    (s.updSession p f).yard = s.yard := yard_of_jobs (by simp)
@[simp] theorem State.updSession_roster (s : State) (p : Nat) (f : Session → Session) :
    (s.updSession p f).roster = s.roster := roster_of_jobs (by simp)
@[simp] theorem State.setActive_core (s : State) (p : List Slot) :
    (s.setActive p).core = s.core := rfl
@[simp] theorem State.setActive_fleet (s : State) (p : List Slot) :
    (s.setActive p).fleet = s.fleet := rfl
@[simp] theorem State.setActive_service (s : State) (p : List Slot) :
    (s.setActive p).service = s.service := rfl
@[simp] theorem State.setActive_yard (s : State) (p : List Slot) :
    (s.setActive p).yard = s.yard := rfl
@[simp] theorem State.setActive_energy (s : State) (p : List Slot) :
    (s.setActive p).energy = s.energy := rfl
@[simp] theorem State.setActive_bus (s : State) (p : List Slot) :
    (s.setActive p).bus = s.bus := rfl
@[simp] theorem State.setActive_notices (s : State) (p : List Slot) :
    (s.setActive p).notices = s.notices := rfl
@[simp] theorem State.setActive_faults (s : State) (p : List Slot) :
    (s.setActive p).faults = s.faults := rfl
@[simp] theorem State.setStaged_core (s : State) (p : List Slot) :
    (s.setStaged p).core = s.core := rfl
@[simp] theorem State.setStaged_fleet (s : State) (p : List Slot) :
    (s.setStaged p).fleet = s.fleet := rfl
@[simp] theorem State.setStaged_service (s : State) (p : List Slot) :
    (s.setStaged p).service = s.service := rfl
@[simp] theorem State.setStaged_yard (s : State) (p : List Slot) :
    (s.setStaged p).yard = s.yard := rfl
@[simp] theorem State.setStaged_energy (s : State) (p : List Slot) :
    (s.setStaged p).energy = s.energy := rfl
@[simp] theorem State.setStaged_bus (s : State) (p : List Slot) :
    (s.setStaged p).bus = s.bus := rfl
@[simp] theorem State.setStaged_notices (s : State) (p : List Slot) :
    (s.setStaged p).notices = s.notices := rfl
@[simp] theorem State.setStaged_faults (s : State) (p : List Slot) :
    (s.setStaged p).faults = s.faults := rfl
@[simp] theorem State.updSlot_core (s : State) (n : Nat) (f : Slot → Slot) :
    (s.updSlot n f).core = s.core := rfl
@[simp] theorem State.updSlot_fleet (s : State) (n : Nat) (f : Slot → Slot) :
    (s.updSlot n f).fleet = s.fleet := rfl
@[simp] theorem State.updSlot_service (s : State) (n : Nat) (f : Slot → Slot) :
    (s.updSlot n f).service = s.service := rfl
@[simp] theorem State.updSlot_yard (s : State) (n : Nat) (f : Slot → Slot) :
    (s.updSlot n f).yard = s.yard := rfl
@[simp] theorem State.updSlot_energy (s : State) (n : Nat) (f : Slot → Slot) :
    (s.updSlot n f).energy = s.energy := rfl
@[simp] theorem State.updSlot_bus (s : State) (n : Nat) (f : Slot → Slot) :
    (s.updSlot n f).bus = s.bus := rfl
@[simp] theorem State.updSlot_notices (s : State) (n : Nat) (f : Slot → Slot) :
    (s.updSlot n f).notices = s.notices := rfl
@[simp] theorem State.updSlot_faults (s : State) (n : Nat) (f : Slot → Slot) :
    (s.updSlot n f).faults = s.faults := rfl
@[simp] theorem State.raise_core (s : State) (k : NoticeKind) :
    (s.raise k).core = s.core := rfl
@[simp] theorem State.raise_jobs (s : State) (k : NoticeKind) :
    (s.raise k).jobs = s.jobs := rfl
@[simp] theorem State.raise_energy (s : State) (k : NoticeKind) :
    (s.raise k).energy = s.energy := rfl
@[simp] theorem State.raise_bus (s : State) (k : NoticeKind) :
    (s.raise k).bus = s.bus := rfl
@[simp] theorem State.raise_faults (s : State) (k : NoticeKind) :
    (s.raise k).faults = s.faults := rfl
@[simp] theorem State.raise_fleet (s : State) (k : NoticeKind) :
    (s.raise k).fleet = s.fleet := fleet_of_jobs (by simp)
@[simp] theorem State.raise_service (s : State) (k : NoticeKind) :
    (s.raise k).service = s.service := service_of_jobs (by simp)
@[simp] theorem State.raise_yard (s : State) (k : NoticeKind) :
    (s.raise k).yard = s.yard := yard_of_jobs (by simp)
@[simp] theorem State.raise_roster (s : State) (k : NoticeKind) :
    (s.raise k).roster = s.roster := roster_of_jobs (by simp)
@[simp] theorem State.report_core (s : State) (c : FaultCode) (subject : Nat) :
    (s.report c subject).core = s.core := by unfold State.report; dsimp only; split <;> rfl
@[simp] theorem State.report_jobs (s : State) (c : FaultCode) (subject : Nat) :
    (s.report c subject).jobs = s.jobs := by unfold State.report; dsimp only; split <;> rfl
@[simp] theorem State.report_energy (s : State) (c : FaultCode) (subject : Nat) :
    (s.report c subject).energy = s.energy := by unfold State.report; dsimp only; split <;> rfl
@[simp] theorem State.report_bus (s : State) (c : FaultCode) (subject : Nat) :
    (s.report c subject).bus = s.bus := by unfold State.report; dsimp only; split <;> rfl
@[simp] theorem State.report_fleet (s : State) (c : FaultCode) (subject : Nat) :
    (s.report c subject).fleet = s.fleet := fleet_of_jobs (by simp)
@[simp] theorem State.report_service (s : State) (c : FaultCode) (subject : Nat) :
    (s.report c subject).service = s.service := service_of_jobs (by simp)
@[simp] theorem State.report_yard (s : State) (c : FaultCode) (subject : Nat) :
    (s.report c subject).yard = s.yard := yard_of_jobs (by simp)
@[simp] theorem State.report_roster (s : State) (c : FaultCode) (subject : Nat) :
    (s.report c subject).roster = s.roster := roster_of_jobs (by simp)
@[simp] theorem State.setpointLost_core (s : State) (m : OutMsg) :
    (s.setpointLost m).core = s.core := by
  unfold State.setpointLost; (try dsimp only); (repeat' split) <;> first | (simp; done) | (simp; rfl) | rfl |
      exact foldl_keeps State.core _ (fun _ _ => by simp) _ _
@[simp] theorem State.setpointLost_jobs (s : State) (m : OutMsg) :
    (s.setpointLost m).jobs = s.jobs := by
  unfold State.setpointLost; (try dsimp only); (repeat' split) <;> first | (simp; done) | (simp; rfl) | rfl |
      exact foldl_keeps State.jobs _ (fun _ _ => by simp) _ _
@[simp] theorem State.setpointLost_bus (s : State) (m : OutMsg) :
    (s.setpointLost m).bus = s.bus := by
  unfold State.setpointLost; (try dsimp only); (repeat' split) <;> first | (simp; done) | (simp; rfl) | rfl |
      exact foldl_keeps State.bus _ (fun _ _ => by simp) _ _
@[simp] theorem State.setpointLost_notices (s : State) (m : OutMsg) :
    (s.setpointLost m).notices = s.notices := by
  unfold State.setpointLost; (try dsimp only); (repeat' split) <;> first | (simp; done) | (simp; rfl) | rfl |
      exact foldl_keeps State.notices _ (fun _ _ => by simp) _ _
@[simp] theorem State.setpointLost_faults (s : State) (m : OutMsg) :
    (s.setpointLost m).faults = s.faults := by
  unfold State.setpointLost; (try dsimp only); (repeat' split) <;> first | (simp; done) | (simp; rfl) | rfl |
      exact foldl_keeps State.faults _ (fun _ _ => by simp) _ _
@[simp] theorem State.setpointLost_fleet (s : State) (m : OutMsg) :
    (s.setpointLost m).fleet = s.fleet := fleet_of_jobs (by simp)
@[simp] theorem State.setpointLost_service (s : State) (m : OutMsg) :
    (s.setpointLost m).service = s.service := service_of_jobs (by simp)
@[simp] theorem State.setpointLost_yard (s : State) (m : OutMsg) :
    (s.setpointLost m).yard = s.yard := yard_of_jobs (by simp)
@[simp] theorem State.setpointLost_roster (s : State) (m : OutMsg) :
    (s.setpointLost m).roster = s.roster := roster_of_jobs (by simp)
@[simp] theorem State.loseMsg_core (s : State) (m : OutMsg) :
    (s.loseMsg m).core = s.core := by
  unfold State.loseMsg; (try dsimp only); (repeat' split) <;> first | (simp; done) | (simp; rfl) | rfl |
      exact foldl_keeps State.core _ (fun _ _ => by simp) _ _
@[simp] theorem State.loseMsg_jobs (s : State) (m : OutMsg) :
    (s.loseMsg m).jobs = s.jobs := by
  unfold State.loseMsg; (try dsimp only); (repeat' split) <;> first | (simp; done) | (simp; rfl) | rfl |
      exact foldl_keeps State.jobs _ (fun _ _ => by simp) _ _
@[simp] theorem State.loseMsg_bus (s : State) (m : OutMsg) :
    (s.loseMsg m).bus = s.bus := by
  unfold State.loseMsg; (try dsimp only); (repeat' split) <;> first | (simp; done) | (simp; rfl) | rfl |
      exact foldl_keeps State.bus _ (fun _ _ => by simp) _ _
@[simp] theorem State.loseMsg_fleet (s : State) (m : OutMsg) :
    (s.loseMsg m).fleet = s.fleet := fleet_of_jobs (by simp)
@[simp] theorem State.loseMsg_service (s : State) (m : OutMsg) :
    (s.loseMsg m).service = s.service := service_of_jobs (by simp)
@[simp] theorem State.loseMsg_yard (s : State) (m : OutMsg) :
    (s.loseMsg m).yard = s.yard := yard_of_jobs (by simp)
@[simp] theorem State.loseMsg_roster (s : State) (m : OutMsg) :
    (s.loseMsg m).roster = s.roster := roster_of_jobs (by simp)
@[simp] theorem State.pollFill_core (s : State) :
    (s.pollFill).core = s.core := by unfold State.pollFill Bus.append; (repeat' split) <;> rfl
@[simp] theorem State.pollFill_jobs (s : State) :
    (s.pollFill).jobs = s.jobs := by unfold State.pollFill Bus.append; (repeat' split) <;> rfl
@[simp] theorem State.pollFill_energy (s : State) :
    (s.pollFill).energy = s.energy := by unfold State.pollFill Bus.append; (repeat' split) <;> rfl
@[simp] theorem State.pollFill_notices (s : State) :
    (s.pollFill).notices = s.notices := by unfold State.pollFill Bus.append; (repeat' split) <;> rfl
@[simp] theorem State.pollFill_faults (s : State) :
    (s.pollFill).faults = s.faults := by unfold State.pollFill Bus.append; (repeat' split) <;> rfl
@[simp] theorem State.pollFill_fleet (s : State) :
    (s.pollFill).fleet = s.fleet := fleet_of_jobs (by simp)
@[simp] theorem State.pollFill_service (s : State) :
    (s.pollFill).service = s.service := service_of_jobs (by simp)
@[simp] theorem State.pollFill_yard (s : State) :
    (s.pollFill).yard = s.yard := yard_of_jobs (by simp)
@[simp] theorem State.pollFill_roster (s : State) :
    (s.pollFill).roster = s.roster := roster_of_jobs (by simp)

@[simp] theorem State.loseMsg_rest (s : State) (m : OutMsg) : (s.loseMsg m).bus = s.bus := by
  unfold State.loseMsg; simp

/-- What the queue operations leave alone in the bus. -/
def Bus.rest (b : Bus) : Bus := { b with urgent := [], normal := [], heldOver := [] }

theorem State.withBus_core (s : State) (b : Bus) (h : b.rest = s.bus.rest) : ({ s with bus := b } : State).core = s.core := by
  have h1 := congrArg Bus.iface h; have h2 := congrArg Bus.freeSeen h; have h3 := congrArg Bus.receiving h
  have h4 := congrArg Bus.answer h; have h5 := congrArg Bus.inbound h; have h6 := congrArg Bus.inFlight h
  have h7 := congrArg Bus.nodes h
  simp only [Bus.rest] at h1 h2 h3 h4 h5 h6 h7
  simp [State.core, h1, h2, h3, h4, h5, h6, h7]

theorem refillWith_rest : ∀ (ms : List OutMsg) (b : Bus), (refillWith b ms).rest = b.rest
  | [], _ => rfl
  | m :: ms, b => by
    unfold refillWith
    split
    · rfl
    · exact (refillWith_rest ms _).trans rfl
@[simp] theorem Bus.refill_rest (b : Bus) : b.refill.rest = b.rest := refillWith_rest b.heldOver b
@[simp] theorem Bus.removeReplaced_rest (b : Bus) (m : OutMsg) : (b.removeReplaced m).rest = b.rest := rfl
@[simp] theorem Bus.append_rest (b : Bus) (m : OutMsg) : (b.append m).rest = b.rest := by
  unfold Bus.append; split <;> rfl

@[simp] theorem State.placeFreed_core (s : State) : s.placeFreed.core = s.core := by
  unfold State.placeFreed; rw [State.pollFill_core]; exact State.withBus_core s _ (Bus.refill_rest s.bus)
@[simp] theorem State.placeFreed_jobs (s : State) : s.placeFreed.jobs = s.jobs := by
  unfold State.placeFreed; rw [State.pollFill_jobs]; rfl
@[simp] theorem State.placeFreed_energy (s : State) : s.placeFreed.energy = s.energy := by
  unfold State.placeFreed; rw [State.pollFill_energy]
@[simp] theorem State.placeFreed_faults (s : State) : s.placeFreed.faults = s.faults := by
  unfold State.placeFreed; rw [State.pollFill_faults]
@[simp] theorem State.placeFreed_notices (s : State) : s.placeFreed.notices = s.notices := by
  unfold State.placeFreed; rw [State.pollFill_notices]

@[simp] theorem State.enqueueFull_core (s : State) (m : OutMsg) : (s.enqueueFull m).core = s.core := by
  unfold State.enqueueFull
  split
  · split
    · rename_i young _
      have h : (if young.isPoll then s else s.loseMsg young).core = s.core := by split <;> simp
      exact (State.withBus_core _ _ rfl).trans h
    · split
      · exact State.loseMsg_core _ _
      all_goals exact State.withBus_core s _ rfl
  · exact State.loseMsg_core _ _
@[simp] theorem State.enqueueFull_jobs (s : State) (m : OutMsg) : (s.enqueueFull m).jobs = s.jobs := by
  unfold State.enqueueFull
  split
  · split
    · rename_i young _
      have h : (if young.isPoll then s else s.loseMsg young).jobs = s.jobs := by split <;> simp
      exact h
    · split
      · exact State.loseMsg_jobs _ _
      all_goals rfl
  · exact State.loseMsg_jobs _ _

@[simp] theorem State.enqueue_core (s : State) (m : OutMsg) : (s.enqueue m).core = s.core := by
  unfold State.enqueue
  have h0 : ((s.bus.removeReplaced m).refill).rest = s.bus.rest := by simp
  dsimp only
  split
  · rw [State.enqueueFull_core]; exact State.withBus_core s _ h0
  · rw [State.pollFill_core]; exact State.withBus_core s _ ((Bus.append_rest _ m).trans h0)
@[simp] theorem State.enqueue_jobs (s : State) (m : OutMsg) : (s.enqueue m).jobs = s.jobs := by
  unfold State.enqueue
  dsimp only
  split
  · rw [State.enqueueFull_jobs]; rfl
  · rw [State.pollFill_jobs]; rfl
@[simp] theorem State.enqueueFull_fleet (s : State) (m : OutMsg) : (s.enqueueFull m).fleet = s.fleet := fleet_of_jobs (by simp)
@[simp] theorem State.enqueueFull_service (s : State) (m : OutMsg) : (s.enqueueFull m).service = s.service := service_of_jobs (by simp)
@[simp] theorem State.enqueueFull_yard (s : State) (m : OutMsg) : (s.enqueueFull m).yard = s.yard := yard_of_jobs (by simp)
@[simp] theorem State.enqueueFull_roster (s : State) (m : OutMsg) : (s.enqueueFull m).roster = s.roster := roster_of_jobs (by simp)
@[simp] theorem State.enqueue_fleet (s : State) (m : OutMsg) : (s.enqueue m).fleet = s.fleet := fleet_of_jobs (by simp)
@[simp] theorem State.enqueue_service (s : State) (m : OutMsg) : (s.enqueue m).service = s.service := service_of_jobs (by simp)
@[simp] theorem State.enqueue_yard (s : State) (m : OutMsg) : (s.enqueue m).yard = s.yard := yard_of_jobs (by simp)
@[simp] theorem State.enqueue_roster (s : State) (m : OutMsg) : (s.enqueue m).roster = s.roster := roster_of_jobs (by simp)
@[simp] theorem State.placeFreed_fleet (s : State) : (s.placeFreed).fleet = s.fleet := fleet_of_jobs (by simp)
@[simp] theorem State.placeFreed_service (s : State) : (s.placeFreed).service = s.service := service_of_jobs (by simp)
@[simp] theorem State.placeFreed_yard (s : State) : (s.placeFreed).yard = s.yard := yard_of_jobs (by simp)
@[simp] theorem State.placeFreed_roster (s : State) : (s.placeFreed).roster = s.roster := roster_of_jobs (by simp)
@[simp] theorem State.direct_core (s : State) (node v : Nat) (kind : DestKind) (number : Nat) :
    (s.direct node v kind number).core = s.core := by
  unfold State.direct; (try dsimp only); (repeat' split) <;> first | (simp; done) | (simp; rfl) | rfl |
      exact foldl_keeps State.core _ (fun _ _ => by simp) _ _
@[simp] theorem State.direct_jobs (s : State) (node v : Nat) (kind : DestKind) (number : Nat) :
    (s.direct node v kind number).jobs = s.jobs := by
  unfold State.direct; (try dsimp only); (repeat' split) <;> first | (simp; done) | (simp; rfl) | rfl |
      exact foldl_keeps State.jobs _ (fun _ _ => by simp) _ _
@[simp] theorem State.direct_fleet (s : State) (node v : Nat) (kind : DestKind) (number : Nat) :
    (s.direct node v kind number).fleet = s.fleet := fleet_of_jobs (by simp)
@[simp] theorem State.direct_service (s : State) (node v : Nat) (kind : DestKind) (number : Nat) :
    (s.direct node v kind number).service = s.service := service_of_jobs (by simp)
@[simp] theorem State.direct_yard (s : State) (node v : Nat) (kind : DestKind) (number : Nat) :
    (s.direct node v kind number).yard = s.yard := yard_of_jobs (by simp)
@[simp] theorem State.direct_roster (s : State) (node v : Nat) (kind : DestKind) (number : Nat) :
    (s.direct node v kind number).roster = s.roster := roster_of_jobs (by simp)
@[simp] theorem State.setpoint_core (s : State) (p kw : Nat) (urgent : Bool) :
    (s.setpoint p kw urgent).core = s.core := by
  unfold State.setpoint; (try dsimp only); (repeat' split) <;> first | (simp; done) | (simp; rfl) | rfl |
      exact foldl_keeps State.core _ (fun _ _ => by simp) _ _
@[simp] theorem State.setpoint_jobs (s : State) (p kw : Nat) (urgent : Bool) :
    (s.setpoint p kw urgent).jobs = s.jobs := by
  unfold State.setpoint; (try dsimp only); (repeat' split) <;> first | (simp; done) | (simp; rfl) | rfl |
      exact foldl_keeps State.jobs _ (fun _ _ => by simp) _ _
@[simp] theorem State.setpoint_fleet (s : State) (p kw : Nat) (urgent : Bool) :
    (s.setpoint p kw urgent).fleet = s.fleet := fleet_of_jobs (by simp)
@[simp] theorem State.setpoint_service (s : State) (p kw : Nat) (urgent : Bool) :
    (s.setpoint p kw urgent).service = s.service := service_of_jobs (by simp)
@[simp] theorem State.setpoint_yard (s : State) (p kw : Nat) (urgent : Bool) :
    (s.setpoint p kw urgent).yard = s.yard := yard_of_jobs (by simp)
@[simp] theorem State.setpoint_roster (s : State) (p kw : Nat) (urgent : Bool) :
    (s.setpoint p kw urgent).roster = s.roster := roster_of_jobs (by simp)
@[simp] theorem State.yardState_core (s : State) :
    (s.yardState).core = s.core := by
  unfold State.yardState; (try dsimp only); (repeat' split) <;> first | (simp; done) | (simp; rfl) | rfl |
      exact foldl_keeps State.core _ (fun _ _ => by simp) _ _
@[simp] theorem State.yardState_jobs (s : State) :
    (s.yardState).jobs = s.jobs := by
  unfold State.yardState; (try dsimp only); (repeat' split) <;> first | (simp; done) | (simp; rfl) | rfl |
      exact foldl_keeps State.jobs _ (fun _ _ => by simp) _ _
@[simp] theorem State.yardState_fleet (s : State) :
    (s.yardState).fleet = s.fleet := fleet_of_jobs (by simp)
@[simp] theorem State.yardState_service (s : State) :
    (s.yardState).service = s.service := service_of_jobs (by simp)
@[simp] theorem State.yardState_yard (s : State) :
    (s.yardState).yard = s.yard := yard_of_jobs (by simp)
@[simp] theorem State.yardState_roster (s : State) :
    (s.yardState).roster = s.roster := roster_of_jobs (by simp)
@[simp] theorem State.callMsg_core (s : State) (p : Place) (v gate slot : Nat) :
    (s.callMsg p v gate slot).core = s.core := by
  unfold State.callMsg; (try dsimp only); (repeat' split) <;> first | (simp; done) | (simp; rfl) | rfl |
      exact foldl_keeps State.core _ (fun _ _ => by simp) _ _
@[simp] theorem State.callMsg_jobs (s : State) (p : Place) (v gate slot : Nat) :
    (s.callMsg p v gate slot).jobs = s.jobs := by
  unfold State.callMsg; (try dsimp only); (repeat' split) <;> first | (simp; done) | (simp; rfl) | rfl |
      exact foldl_keeps State.jobs _ (fun _ _ => by simp) _ _
@[simp] theorem State.callMsg_fleet (s : State) (p : Place) (v gate slot : Nat) :
    (s.callMsg p v gate slot).fleet = s.fleet := fleet_of_jobs (by simp)
@[simp] theorem State.callMsg_service (s : State) (p : Place) (v gate slot : Nat) :
    (s.callMsg p v gate slot).service = s.service := service_of_jobs (by simp)
@[simp] theorem State.callMsg_yard (s : State) (p : Place) (v gate slot : Nat) :
    (s.callMsg p v gate slot).yard = s.yard := yard_of_jobs (by simp)
@[simp] theorem State.callMsg_roster (s : State) (p : Place) (v gate slot : Nat) :
    (s.callMsg p v gate slot).roster = s.roster := roster_of_jobs (by simp)
@[simp] theorem State.cancelCallMsg_core (s : State) (node : Nat) (p : Place) (slot : Nat) :
    (s.cancelCallMsg node p slot).core = s.core := by
  unfold State.cancelCallMsg; (try dsimp only); (repeat' split) <;> first | (simp; done) | (simp; rfl) | rfl |
      exact foldl_keeps State.core _ (fun _ _ => by simp) _ _
@[simp] theorem State.cancelCallMsg_jobs (s : State) (node : Nat) (p : Place) (slot : Nat) :
    (s.cancelCallMsg node p slot).jobs = s.jobs := by
  unfold State.cancelCallMsg; (try dsimp only); (repeat' split) <;> first | (simp; done) | (simp; rfl) | rfl |
      exact foldl_keeps State.jobs _ (fun _ _ => by simp) _ _
@[simp] theorem State.cancelCallMsg_fleet (s : State) (node : Nat) (p : Place) (slot : Nat) :
    (s.cancelCallMsg node p slot).fleet = s.fleet := fleet_of_jobs (by simp)
@[simp] theorem State.cancelCallMsg_service (s : State) (node : Nat) (p : Place) (slot : Nat) :
    (s.cancelCallMsg node p slot).service = s.service := service_of_jobs (by simp)
@[simp] theorem State.cancelCallMsg_yard (s : State) (node : Nat) (p : Place) (slot : Nat) :
    (s.cancelCallMsg node p slot).yard = s.yard := yard_of_jobs (by simp)
@[simp] theorem State.cancelCallMsg_roster (s : State) (node : Nat) (p : Place) (slot : Nat) :
    (s.cancelCallMsg node p slot).roster = s.roster := roster_of_jobs (by simp)
@[simp] theorem State.mark_core (s : State) (record : Nat) :
    (s.mark record).core = s.core := by unfold State.mark; split <;> rfl
@[simp] theorem State.mark_jobs (s : State) (record : Nat) :
    (s.mark record).jobs = s.jobs := by unfold State.mark; split <;> rfl
@[simp] theorem State.mark_energy (s : State) (record : Nat) :
    (s.mark record).energy = s.energy := by unfold State.mark; split <;> rfl
@[simp] theorem State.mark_bus (s : State) (record : Nat) :
    (s.mark record).bus = s.bus := by unfold State.mark; split <;> rfl
@[simp] theorem State.mark_notices (s : State) (record : Nat) :
    (s.mark record).notices = s.notices := by unfold State.mark; split <;> rfl
@[simp] theorem State.mark_fleet (s : State) (record : Nat) :
    (s.mark record).fleet = s.fleet := fleet_of_jobs (by simp)
@[simp] theorem State.mark_service (s : State) (record : Nat) :
    (s.mark record).service = s.service := service_of_jobs (by simp)
@[simp] theorem State.mark_yard (s : State) (record : Nat) :
    (s.mark record).yard = s.yard := yard_of_jobs (by simp)
@[simp] theorem State.mark_roster (s : State) (record : Nat) :
    (s.mark record).roster = s.roster := roster_of_jobs (by simp)
@[simp] theorem State.unmark_core (s : State) (record : Nat) :
    (s.unmark record).core = s.core := rfl
@[simp] theorem State.unmark_jobs (s : State) (record : Nat) :
    (s.unmark record).jobs = s.jobs := rfl
@[simp] theorem State.unmark_energy (s : State) (record : Nat) :
    (s.unmark record).energy = s.energy := rfl
@[simp] theorem State.unmark_bus (s : State) (record : Nat) :
    (s.unmark record).bus = s.bus := rfl
@[simp] theorem State.unmark_notices (s : State) (record : Nat) :
    (s.unmark record).notices = s.notices := rfl
@[simp] theorem State.unmark_fleet (s : State) (record : Nat) :
    (s.unmark record).fleet = s.fleet := fleet_of_jobs (by simp)
@[simp] theorem State.unmark_service (s : State) (record : Nat) :
    (s.unmark record).service = s.service := service_of_jobs (by simp)
@[simp] theorem State.unmark_yard (s : State) (record : Nat) :
    (s.unmark record).yard = s.yard := yard_of_jobs (by simp)
@[simp] theorem State.unmark_roster (s : State) (record : Nat) :
    (s.unmark record).roster = s.roster := roster_of_jobs (by simp)
@[simp] theorem State.freshen_core (s : State) (record : Nat) :
    (s.freshen record).core = s.core := rfl
@[simp] theorem State.freshen_jobs (s : State) (record : Nat) :
    (s.freshen record).jobs = s.jobs := rfl
@[simp] theorem State.freshen_energy (s : State) (record : Nat) :
    (s.freshen record).energy = s.energy := rfl
@[simp] theorem State.freshen_bus (s : State) (record : Nat) :
    (s.freshen record).bus = s.bus := rfl
@[simp] theorem State.freshen_notices (s : State) (record : Nat) :
    (s.freshen record).notices = s.notices := rfl
@[simp] theorem State.freshen_fleet (s : State) (record : Nat) :
    (s.freshen record).fleet = s.fleet := fleet_of_jobs (by simp)
@[simp] theorem State.freshen_service (s : State) (record : Nat) :
    (s.freshen record).service = s.service := service_of_jobs (by simp)
@[simp] theorem State.freshen_yard (s : State) (record : Nat) :
    (s.freshen record).yard = s.yard := yard_of_jobs (by simp)
@[simp] theorem State.freshen_roster (s : State) (record : Nat) :
    (s.freshen record).roster = s.roster := roster_of_jobs (by simp)

end Sys2Proof.Machine
end

