-- ==== Sys2Proof/Laws/Energy.lean ====
section
/-! SUPPORT. What each operation of the Energy Manager leaves alone: one lemma per view. -/

namespace Sys2Proof.Machine

@[simp] theorem State.issue_core (s : State) (p grant : Nat) :
    (s.issue p grant).core = s.core := by
  unfold State.issue; (try dsimp only); (repeat' split) <;> first | (simp; done) | (simp; rfl) | rfl |
      exact foldl_keeps State.core _ (fun _ _ => by simp) _ _
@[simp] theorem State.issue_jobs (s : State) (p grant : Nat) :
    (s.issue p grant).jobs = s.jobs := by
  unfold State.issue; (try dsimp only); (repeat' split) <;> first | (simp; done) | (simp; rfl) | rfl |
      exact foldl_keeps State.jobs _ (fun _ _ => by simp) _ _
@[simp] theorem State.issue_fleet (s : State) (p grant : Nat) :
    (s.issue p grant).fleet = s.fleet := fleet_of_jobs (by simp)
@[simp] theorem State.issue_service (s : State) (p grant : Nat) :
    (s.issue p grant).service = s.service := service_of_jobs (by simp)
@[simp] theorem State.issue_yard (s : State) (p grant : Nat) :
    (s.issue p grant).yard = s.yard := yard_of_jobs (by simp)
@[simp] theorem State.issue_roster (s : State) (p grant : Nat) :
    (s.issue p grant).roster = s.roster := roster_of_jobs (by simp)
@[simp] theorem State.issueZero_core (s : State) (p : Nat) :
    (s.issueZero p).core = s.core := by
  unfold State.issueZero; (try dsimp only); (repeat' split) <;> first | (simp; done) | (simp; rfl) | rfl |
      exact foldl_keeps State.core _ (fun _ _ => by simp) _ _
@[simp] theorem State.issueZero_jobs (s : State) (p : Nat) :
    (s.issueZero p).jobs = s.jobs := by
  unfold State.issueZero; (try dsimp only); (repeat' split) <;> first | (simp; done) | (simp; rfl) | rfl |
      exact foldl_keeps State.jobs _ (fun _ _ => by simp) _ _
@[simp] theorem State.issueZero_fleet (s : State) (p : Nat) :
    (s.issueZero p).fleet = s.fleet := fleet_of_jobs (by simp)
@[simp] theorem State.issueZero_service (s : State) (p : Nat) :
    (s.issueZero p).service = s.service := service_of_jobs (by simp)
@[simp] theorem State.issueZero_yard (s : State) (p : Nat) :
    (s.issueZero p).yard = s.yard := yard_of_jobs (by simp)
@[simp] theorem State.issueZero_roster (s : State) (p : Nat) :
    (s.issueZero p).roster = s.roster := roster_of_jobs (by simp)
@[simp] theorem State.issueGrant_core (s : State) (p : Nat) :
    (s.issueGrant p).core = s.core := by
  unfold State.issueGrant; (try dsimp only); (repeat' split) <;> first | (simp; done) | (simp; rfl) | rfl |
      exact foldl_keeps State.core _ (fun _ _ => by simp) _ _
@[simp] theorem State.issueGrant_jobs (s : State) (p : Nat) :
    (s.issueGrant p).jobs = s.jobs := by
  unfold State.issueGrant; (try dsimp only); (repeat' split) <;> first | (simp; done) | (simp; rfl) | rfl |
      exact foldl_keeps State.jobs _ (fun _ _ => by simp) _ _
@[simp] theorem State.issueGrant_fleet (s : State) (p : Nat) :
    (s.issueGrant p).fleet = s.fleet := fleet_of_jobs (by simp)
@[simp] theorem State.issueGrant_service (s : State) (p : Nat) :
    (s.issueGrant p).service = s.service := service_of_jobs (by simp)
@[simp] theorem State.issueGrant_yard (s : State) (p : Nat) :
    (s.issueGrant p).yard = s.yard := yard_of_jobs (by simp)
@[simp] theorem State.issueGrant_roster (s : State) (p : Nat) :
    (s.issueGrant p).roster = s.roster := roster_of_jobs (by simp)
@[simp] theorem State.issueLostZero_core (s : State) (p : Nat) :
    (s.issueLostZero p).core = s.core := by
  unfold State.issueLostZero; (try dsimp only); (repeat' split) <;> first | (simp; done) | (simp; rfl) | rfl |
      exact foldl_keeps State.core _ (fun _ _ => by simp) _ _
@[simp] theorem State.issueLostZero_jobs (s : State) (p : Nat) :
    (s.issueLostZero p).jobs = s.jobs := by
  unfold State.issueLostZero; (try dsimp only); (repeat' split) <;> first | (simp; done) | (simp; rfl) | rfl |
      exact foldl_keeps State.jobs _ (fun _ _ => by simp) _ _
@[simp] theorem State.issueLostZero_fleet (s : State) (p : Nat) :
    (s.issueLostZero p).fleet = s.fleet := fleet_of_jobs (by simp)
@[simp] theorem State.issueLostZero_service (s : State) (p : Nat) :
    (s.issueLostZero p).service = s.service := service_of_jobs (by simp)
@[simp] theorem State.issueLostZero_yard (s : State) (p : Nat) :
    (s.issueLostZero p).yard = s.yard := yard_of_jobs (by simp)
@[simp] theorem State.issueLostZero_roster (s : State) (p : Nat) :
    (s.issueLostZero p).roster = s.roster := roster_of_jobs (by simp)
@[simp] theorem State.issueSetpoints_core (s : State) :
    (s.issueSetpoints).core = s.core := by
  unfold State.issueSetpoints; (try dsimp only); (repeat' split) <;> first | (simp; done) | (simp; rfl) | rfl |
      exact foldl_keeps State.core _ (fun _ _ => by simp) _ _
@[simp] theorem State.issueSetpoints_jobs (s : State) :
    (s.issueSetpoints).jobs = s.jobs := by
  unfold State.issueSetpoints; (try dsimp only); (repeat' split) <;> first | (simp; done) | (simp; rfl) | rfl |
      exact foldl_keeps State.jobs _ (fun _ _ => by simp) _ _
@[simp] theorem State.issueSetpoints_fleet (s : State) :
    (s.issueSetpoints).fleet = s.fleet := fleet_of_jobs (by simp)
@[simp] theorem State.issueSetpoints_service (s : State) :
    (s.issueSetpoints).service = s.service := service_of_jobs (by simp)
@[simp] theorem State.issueSetpoints_yard (s : State) :
    (s.issueSetpoints).yard = s.yard := yard_of_jobs (by simp)
@[simp] theorem State.issueSetpoints_roster (s : State) :
    (s.issueSetpoints).roster = s.roster := roster_of_jobs (by simp)
@[simp] theorem State.completeAt_core (s : State) (p : Nat) :
    (s.completeAt p).core = s.core := by
  unfold State.completeAt; (try dsimp only); (repeat' split) <;> first | (simp; done) | (simp; rfl) | rfl |
      exact foldl_keeps State.core _ (fun _ _ => by simp) _ _
@[simp] theorem State.completeAt_jobs (s : State) (p : Nat) :
    (s.completeAt p).jobs = s.jobs := by
  unfold State.completeAt; (try dsimp only); (repeat' split) <;> first | (simp; done) | (simp; rfl) | rfl |
      exact foldl_keeps State.jobs _ (fun _ _ => by simp) _ _
@[simp] theorem State.completeAt_bus (s : State) (p : Nat) :
    (s.completeAt p).bus = s.bus := by
  unfold State.completeAt; (try dsimp only); (repeat' split) <;> first | (simp; done) | (simp; rfl) | rfl |
      exact foldl_keeps State.bus _ (fun _ _ => by simp) _ _
@[simp] theorem State.completeAt_notices (s : State) (p : Nat) :
    (s.completeAt p).notices = s.notices := by
  unfold State.completeAt; (try dsimp only); (repeat' split) <;> first | (simp; done) | (simp; rfl) | rfl |
      exact foldl_keeps State.notices _ (fun _ _ => by simp) _ _
@[simp] theorem State.completeAt_faults (s : State) (p : Nat) :
    (s.completeAt p).faults = s.faults := by
  unfold State.completeAt; (try dsimp only); (repeat' split) <;> first | (simp; done) | (simp; rfl) | rfl |
      exact foldl_keeps State.faults _ (fun _ _ => by simp) _ _
@[simp] theorem State.completeAt_fleet (s : State) (p : Nat) :
    (s.completeAt p).fleet = s.fleet := fleet_of_jobs (by simp)
@[simp] theorem State.completeAt_service (s : State) (p : Nat) :
    (s.completeAt p).service = s.service := service_of_jobs (by simp)
@[simp] theorem State.completeAt_yard (s : State) (p : Nat) :
    (s.completeAt p).yard = s.yard := yard_of_jobs (by simp)
@[simp] theorem State.completeAt_roster (s : State) (p : Nat) :
    (s.completeAt p).roster = s.roster := roster_of_jobs (by simp)
@[simp] theorem State.formInputs_core (s : State) (p : Nat) :
    (s.formInputs p).core = s.core := by
  unfold State.formInputs; (try dsimp only); (repeat' split) <;> first | (simp; done) | (simp; rfl) | rfl |
      exact foldl_keeps State.core _ (fun _ _ => by simp) _ _
@[simp] theorem State.formInputs_jobs (s : State) (p : Nat) :
    (s.formInputs p).jobs = s.jobs := by
  unfold State.formInputs; (try dsimp only); (repeat' split) <;> first | (simp; done) | (simp; rfl) | rfl |
      exact foldl_keeps State.jobs _ (fun _ _ => by simp) _ _
@[simp] theorem State.formInputs_fleet (s : State) (p : Nat) :
    (s.formInputs p).fleet = s.fleet := fleet_of_jobs (by simp)
@[simp] theorem State.formInputs_service (s : State) (p : Nat) :
    (s.formInputs p).service = s.service := service_of_jobs (by simp)
@[simp] theorem State.formInputs_yard (s : State) (p : Nat) :
    (s.formInputs p).yard = s.yard := yard_of_jobs (by simp)
@[simp] theorem State.formInputs_roster (s : State) (p : Nat) :
    (s.formInputs p).roster = s.roster := roster_of_jobs (by simp)
@[simp] theorem State.writeShare_core (s : State) (x : Share) :
    (s.writeShare x).core = s.core := by
  unfold State.writeShare; (try dsimp only); (repeat' split) <;> first | (simp; done) | (simp; rfl) | rfl |
      exact foldl_keeps State.core _ (fun _ _ => by simp) _ _
@[simp] theorem State.writeShare_jobs (s : State) (x : Share) :
    (s.writeShare x).jobs = s.jobs := by
  unfold State.writeShare; (try dsimp only); (repeat' split) <;> first | (simp; done) | (simp; rfl) | rfl |
      exact foldl_keeps State.jobs _ (fun _ _ => by simp) _ _
@[simp] theorem State.writeShare_bus (s : State) (x : Share) :
    (s.writeShare x).bus = s.bus := by
  unfold State.writeShare; (try dsimp only); (repeat' split) <;> first | (simp; done) | (simp; rfl) | rfl |
      exact foldl_keeps State.bus _ (fun _ _ => by simp) _ _
@[simp] theorem State.writeShare_notices (s : State) (x : Share) :
    (s.writeShare x).notices = s.notices := by
  unfold State.writeShare; (try dsimp only); (repeat' split) <;> first | (simp; done) | (simp; rfl) | rfl |
      exact foldl_keeps State.notices _ (fun _ _ => by simp) _ _
@[simp] theorem State.writeShare_faults (s : State) (x : Share) :
    (s.writeShare x).faults = s.faults := by
  unfold State.writeShare; (try dsimp only); (repeat' split) <;> first | (simp; done) | (simp; rfl) | rfl |
      exact foldl_keeps State.faults _ (fun _ _ => by simp) _ _
@[simp] theorem State.writeShare_fleet (s : State) (x : Share) :
    (s.writeShare x).fleet = s.fleet := fleet_of_jobs (by simp)
@[simp] theorem State.writeShare_service (s : State) (x : Share) :
    (s.writeShare x).service = s.service := service_of_jobs (by simp)
@[simp] theorem State.writeShare_yard (s : State) (x : Share) :
    (s.writeShare x).yard = s.yard := yard_of_jobs (by simp)
@[simp] theorem State.writeShare_roster (s : State) (x : Share) :
    (s.writeShare x).roster = s.roster := roster_of_jobs (by simp)
@[simp] theorem State.gradeAt_core (s : State) (p : Nat) :
    (s.gradeAt p).core = s.core := by
  unfold State.gradeAt; (try dsimp only); (repeat' split) <;> first | (simp; done) | (simp; rfl) | rfl |
      exact foldl_keeps State.core _ (fun _ _ => by simp) _ _
@[simp] theorem State.gradeAt_jobs (s : State) (p : Nat) :
    (s.gradeAt p).jobs = s.jobs := by
  unfold State.gradeAt; (try dsimp only); (repeat' split) <;> first | (simp; done) | (simp; rfl) | rfl |
      exact foldl_keeps State.jobs _ (fun _ _ => by simp) _ _
@[simp] theorem State.gradeAt_fleet (s : State) (p : Nat) :
    (s.gradeAt p).fleet = s.fleet := fleet_of_jobs (by simp)
@[simp] theorem State.gradeAt_service (s : State) (p : Nat) :
    (s.gradeAt p).service = s.service := service_of_jobs (by simp)
@[simp] theorem State.gradeAt_yard (s : State) (p : Nat) :
    (s.gradeAt p).yard = s.yard := yard_of_jobs (by simp)
@[simp] theorem State.gradeAt_roster (s : State) (p : Nat) :
    (s.gradeAt p).roster = s.roster := roster_of_jobs (by simp)
@[simp] theorem State.recompute_core (s : State) :
    (s.recompute).core = s.core := by
  unfold State.recompute; (try dsimp only); (repeat' split) <;> first | (simp; done) | (simp; rfl) | rfl |
      exact foldl_keeps State.core _ (fun _ _ => by simp) _ _
@[simp] theorem State.recompute_jobs (s : State) :
    (s.recompute).jobs = s.jobs := by
  unfold State.recompute; (try dsimp only); (repeat' split) <;> first | (simp; done) | (simp; rfl) | rfl |
      exact foldl_keeps State.jobs _ (fun _ _ => by simp) _ _
@[simp] theorem State.recompute_fleet (s : State) :
    (s.recompute).fleet = s.fleet := fleet_of_jobs (by simp)
@[simp] theorem State.recompute_service (s : State) :
    (s.recompute).service = s.service := service_of_jobs (by simp)
@[simp] theorem State.recompute_yard (s : State) :
    (s.recompute).yard = s.yard := yard_of_jobs (by simp)
@[simp] theorem State.recompute_roster (s : State) :
    (s.recompute).roster = s.roster := roster_of_jobs (by simp)
@[simp] theorem State.reformBudget_core (before after : State) :
    (State.reformBudget before after).core = after.core := by
  unfold State.reformBudget; split <;> simp
@[simp] theorem State.reformBudget_jobs (before after : State) :
    (State.reformBudget before after).jobs = after.jobs := by
  unfold State.reformBudget; split <;> simp
@[simp] theorem State.reformBudget_fleet (before after : State) :
    (State.reformBudget before after).fleet = after.fleet := fleet_of_jobs (by simp)
@[simp] theorem State.reformBudget_service (before after : State) :
    (State.reformBudget before after).service = after.service := service_of_jobs (by simp)
@[simp] theorem State.reformBudget_yard (before after : State) :
    (State.reformBudget before after).yard = after.yard := yard_of_jobs (by simp)
@[simp] theorem State.reformBudget_roster (before after : State) :
    (State.reformBudget before after).roster = after.roster := roster_of_jobs (by simp)
@[simp] theorem State.dropSession_core (s : State) (p : Nat) :
    (s.dropSession p).core = s.core := by
  unfold State.dropSession; (try dsimp only); (repeat' split) <;> first | (simp; done) | (simp; rfl) | rfl |
      exact foldl_keeps State.core _ (fun _ _ => by simp) _ _
@[simp] theorem State.dropSession_jobs (s : State) (p : Nat) :
    (s.dropSession p).jobs = s.jobs := by
  unfold State.dropSession; (try dsimp only); (repeat' split) <;> first | (simp; done) | (simp; rfl) | rfl |
      exact foldl_keeps State.jobs _ (fun _ _ => by simp) _ _
@[simp] theorem State.dropSession_fleet (s : State) (p : Nat) :
    (s.dropSession p).fleet = s.fleet := fleet_of_jobs (by simp)
@[simp] theorem State.dropSession_service (s : State) (p : Nat) :
    (s.dropSession p).service = s.service := service_of_jobs (by simp)
@[simp] theorem State.dropSession_yard (s : State) (p : Nat) :
    (s.dropSession p).yard = s.yard := yard_of_jobs (by simp)
@[simp] theorem State.dropSession_roster (s : State) (p : Nat) :
    (s.dropSession p).roster = s.roster := roster_of_jobs (by simp)
@[simp] theorem State.endSession_core (s : State) (p : Nat) :
    (s.endSession p).core = s.core := by
  unfold State.endSession; (try dsimp only); (repeat' split) <;> first | (simp; done) | (simp; rfl) | rfl |
      exact foldl_keeps State.core _ (fun _ _ => by simp) _ _
@[simp] theorem State.endSession_jobs (s : State) (p : Nat) :
    (s.endSession p).jobs = s.jobs := by
  unfold State.endSession; (try dsimp only); (repeat' split) <;> first | (simp; done) | (simp; rfl) | rfl |
      exact foldl_keeps State.jobs _ (fun _ _ => by simp) _ _
@[simp] theorem State.endSession_fleet (s : State) (p : Nat) :
    (s.endSession p).fleet = s.fleet := fleet_of_jobs (by simp)
@[simp] theorem State.endSession_service (s : State) (p : Nat) :
    (s.endSession p).service = s.service := service_of_jobs (by simp)
@[simp] theorem State.endSession_yard (s : State) (p : Nat) :
    (s.endSession p).yard = s.yard := yard_of_jobs (by simp)
@[simp] theorem State.endSession_roster (s : State) (p : Nat) :
    (s.endSession p).roster = s.roster := roster_of_jobs (by simp)
@[simp] theorem State.dropStaleStop_core (s : State) (p : Nat) :
    (s.dropStaleStop p).core = s.core := by
  unfold State.dropStaleStop; (try dsimp only); (repeat' split) <;> first | (simp; done) | (simp; rfl) | rfl |
      exact foldl_keeps State.core _ (fun _ _ => by simp) _ _
@[simp] theorem State.dropStaleStop_jobs (s : State) (p : Nat) :
    (s.dropStaleStop p).jobs = s.jobs := by
  unfold State.dropStaleStop; (try dsimp only); (repeat' split) <;> first | (simp; done) | (simp; rfl) | rfl |
      exact foldl_keeps State.jobs _ (fun _ _ => by simp) _ _
@[simp] theorem State.dropStaleStop_fleet (s : State) (p : Nat) :
    (s.dropStaleStop p).fleet = s.fleet := fleet_of_jobs (by simp)
@[simp] theorem State.dropStaleStop_service (s : State) (p : Nat) :
    (s.dropStaleStop p).service = s.service := service_of_jobs (by simp)
@[simp] theorem State.dropStaleStop_yard (s : State) (p : Nat) :
    (s.dropStaleStop p).yard = s.yard := yard_of_jobs (by simp)
@[simp] theorem State.dropStaleStop_roster (s : State) (p : Nat) :
    (s.dropStaleStop p).roster = s.roster := roster_of_jobs (by simp)
@[simp] theorem State.openingCheck_core (s : State) (p : Nat) :
    (s.openingCheck p).core = s.core := by
  unfold State.openingCheck; (try dsimp only); (repeat' split) <;> first | (simp; done) | (simp; rfl) | rfl |
      exact foldl_keeps State.core _ (fun _ _ => by simp) _ _
@[simp] theorem State.openingCheck_jobs (s : State) (p : Nat) :
    (s.openingCheck p).jobs = s.jobs := by
  unfold State.openingCheck; (try dsimp only); (repeat' split) <;> first | (simp; done) | (simp; rfl) | rfl |
      exact foldl_keeps State.jobs _ (fun _ _ => by simp) _ _
@[simp] theorem State.openingCheck_fleet (s : State) (p : Nat) :
    (s.openingCheck p).fleet = s.fleet := fleet_of_jobs (by simp)
@[simp] theorem State.openingCheck_service (s : State) (p : Nat) :
    (s.openingCheck p).service = s.service := service_of_jobs (by simp)
@[simp] theorem State.openingCheck_yard (s : State) (p : Nat) :
    (s.openingCheck p).yard = s.yard := yard_of_jobs (by simp)
@[simp] theorem State.openingCheck_roster (s : State) (p : Nat) :
    (s.openingCheck p).roster = s.roster := roster_of_jobs (by simp)
@[simp] theorem State.setWaiting_core (s : State) (p : Nat) :
    (s.setWaiting p).core = s.core := by
  unfold State.setWaiting; (try dsimp only); (repeat' split) <;> first | (simp; done) | (simp; rfl) | rfl |
      exact foldl_keeps State.core _ (fun _ _ => by simp) _ _
@[simp] theorem State.setWaiting_jobs (s : State) (p : Nat) :
    (s.setWaiting p).jobs = s.jobs := by
  unfold State.setWaiting; (try dsimp only); (repeat' split) <;> first | (simp; done) | (simp; rfl) | rfl |
      exact foldl_keeps State.jobs _ (fun _ _ => by simp) _ _
@[simp] theorem State.setWaiting_fleet (s : State) (p : Nat) :
    (s.setWaiting p).fleet = s.fleet := fleet_of_jobs (by simp)
@[simp] theorem State.setWaiting_service (s : State) (p : Nat) :
    (s.setWaiting p).service = s.service := service_of_jobs (by simp)
@[simp] theorem State.setWaiting_yard (s : State) (p : Nat) :
    (s.setWaiting p).yard = s.yard := yard_of_jobs (by simp)
@[simp] theorem State.setWaiting_roster (s : State) (p : Nat) :
    (s.setWaiting p).roster = s.roster := roster_of_jobs (by simp)
@[simp] theorem State.regrade_core (s : State) (v : Nat) :
    (s.regrade v).core = s.core := by
  unfold State.regrade; (try dsimp only); (repeat' split) <;> first | (simp; done) | (simp; rfl) | rfl |
      exact foldl_keeps State.core _ (fun _ _ => by simp) _ _
@[simp] theorem State.regrade_jobs (s : State) (v : Nat) :
    (s.regrade v).jobs = s.jobs := by
  unfold State.regrade; (try dsimp only); (repeat' split) <;> first | (simp; done) | (simp; rfl) | rfl |
      exact foldl_keeps State.jobs _ (fun _ _ => by simp) _ _
@[simp] theorem State.regrade_fleet (s : State) (v : Nat) :
    (s.regrade v).fleet = s.fleet := fleet_of_jobs (by simp)
@[simp] theorem State.regrade_service (s : State) (v : Nat) :
    (s.regrade v).service = s.service := service_of_jobs (by simp)
@[simp] theorem State.regrade_yard (s : State) (v : Nat) :
    (s.regrade v).yard = s.yard := yard_of_jobs (by simp)
@[simp] theorem State.regrade_roster (s : State) (v : Nat) :
    (s.regrade v).roster = s.roster := roster_of_jobs (by simp)
@[simp] theorem State.tellArrival_core (s : State) (lane pos : Nat) :
    (s.tellArrival lane pos).core = s.core := by
  unfold State.tellArrival; (try dsimp only); (repeat' split) <;> first | (simp; done) | (simp; rfl) | rfl |
      exact foldl_keeps State.core _ (fun _ _ => by simp) _ _
@[simp] theorem State.tellArrival_jobs (s : State) (lane pos : Nat) :
    (s.tellArrival lane pos).jobs = s.jobs := by
  unfold State.tellArrival; (try dsimp only); (repeat' split) <;> first | (simp; done) | (simp; rfl) | rfl |
      exact foldl_keeps State.jobs _ (fun _ _ => by simp) _ _
@[simp] theorem State.tellArrival_fleet (s : State) (lane pos : Nat) :
    (s.tellArrival lane pos).fleet = s.fleet := fleet_of_jobs (by simp)
@[simp] theorem State.tellArrival_service (s : State) (lane pos : Nat) :
    (s.tellArrival lane pos).service = s.service := service_of_jobs (by simp)
@[simp] theorem State.tellArrival_yard (s : State) (lane pos : Nat) :
    (s.tellArrival lane pos).yard = s.yard := yard_of_jobs (by simp)
@[simp] theorem State.tellArrival_roster (s : State) (lane pos : Nat) :
    (s.tellArrival lane pos).roster = s.roster := roster_of_jobs (by simp)
@[simp] theorem State.tellDeparture_core (s : State) (v lane pos : Nat) :
    (s.tellDeparture v lane pos).core = s.core := by
  unfold State.tellDeparture; (try dsimp only); (repeat' split) <;> first | (simp; done) | (simp; rfl) | rfl |
      exact foldl_keeps State.core _ (fun _ _ => by simp) _ _
@[simp] theorem State.tellDeparture_jobs (s : State) (v lane pos : Nat) :
    (s.tellDeparture v lane pos).jobs = s.jobs := by
  unfold State.tellDeparture; (try dsimp only); (repeat' split) <;> first | (simp; done) | (simp; rfl) | rfl |
      exact foldl_keeps State.jobs _ (fun _ _ => by simp) _ _
@[simp] theorem State.tellDeparture_fleet (s : State) (v lane pos : Nat) :
    (s.tellDeparture v lane pos).fleet = s.fleet := fleet_of_jobs (by simp)
@[simp] theorem State.tellDeparture_service (s : State) (v lane pos : Nat) :
    (s.tellDeparture v lane pos).service = s.service := service_of_jobs (by simp)
@[simp] theorem State.tellDeparture_yard (s : State) (v lane pos : Nat) :
    (s.tellDeparture v lane pos).yard = s.yard := yard_of_jobs (by simp)
@[simp] theorem State.tellDeparture_roster (s : State) (v lane pos : Nat) :
    (s.tellDeparture v lane pos).roster = s.roster := roster_of_jobs (by simp)
@[simp] theorem State.retargetAt_core (s : State) (p : Nat) :
    (s.retargetAt p).core = s.core := by
  unfold State.retargetAt; (try dsimp only); (repeat' split) <;> first | (simp; done) | (simp; rfl) | rfl |
      exact foldl_keeps State.core _ (fun _ _ => by simp) _ _
@[simp] theorem State.retargetAt_jobs (s : State) (p : Nat) :
    (s.retargetAt p).jobs = s.jobs := by
  unfold State.retargetAt; (try dsimp only); (repeat' split) <;> first | (simp; done) | (simp; rfl) | rfl |
      exact foldl_keeps State.jobs _ (fun _ _ => by simp) _ _
@[simp] theorem State.retargetAt_bus (s : State) (p : Nat) :
    (s.retargetAt p).bus = s.bus := by
  unfold State.retargetAt; (try dsimp only); (repeat' split) <;> first | (simp; done) | (simp; rfl) | rfl |
      exact foldl_keeps State.bus _ (fun _ _ => by simp) _ _
@[simp] theorem State.retargetAt_notices (s : State) (p : Nat) :
    (s.retargetAt p).notices = s.notices := by
  unfold State.retargetAt; (try dsimp only); (repeat' split) <;> first | (simp; done) | (simp; rfl) | rfl |
      exact foldl_keeps State.notices _ (fun _ _ => by simp) _ _
@[simp] theorem State.retargetAt_faults (s : State) (p : Nat) :
    (s.retargetAt p).faults = s.faults := by
  unfold State.retargetAt; (try dsimp only); (repeat' split) <;> first | (simp; done) | (simp; rfl) | rfl |
      exact foldl_keeps State.faults _ (fun _ _ => by simp) _ _
@[simp] theorem State.retargetAt_fleet (s : State) (p : Nat) :
    (s.retargetAt p).fleet = s.fleet := fleet_of_jobs (by simp)
@[simp] theorem State.retargetAt_service (s : State) (p : Nat) :
    (s.retargetAt p).service = s.service := service_of_jobs (by simp)
@[simp] theorem State.retargetAt_yard (s : State) (p : Nat) :
    (s.retargetAt p).yard = s.yard := yard_of_jobs (by simp)
@[simp] theorem State.retargetAt_roster (s : State) (p : Nat) :
    (s.retargetAt p).roster = s.roster := roster_of_jobs (by simp)
@[simp] theorem State.retargetAll_core (s : State) :
    (s.retargetAll).core = s.core := by
  unfold State.retargetAll; (try dsimp only); (repeat' split) <;> first | (simp; done) | (simp; rfl) | rfl |
      exact foldl_keeps State.core _ (fun _ _ => by simp) _ _
@[simp] theorem State.retargetAll_jobs (s : State) :
    (s.retargetAll).jobs = s.jobs := by
  unfold State.retargetAll; (try dsimp only); (repeat' split) <;> first | (simp; done) | (simp; rfl) | rfl |
      exact foldl_keeps State.jobs _ (fun _ _ => by simp) _ _
@[simp] theorem State.retargetAll_fleet (s : State) :
    (s.retargetAll).fleet = s.fleet := fleet_of_jobs (by simp)
@[simp] theorem State.retargetAll_service (s : State) :
    (s.retargetAll).service = s.service := service_of_jobs (by simp)
@[simp] theorem State.retargetAll_yard (s : State) :
    (s.retargetAll).yard = s.yard := yard_of_jobs (by simp)
@[simp] theorem State.retargetAll_roster (s : State) :
    (s.retargetAll).roster = s.roster := roster_of_jobs (by simp)
@[simp] theorem State.account_core (s : State) (p : Nat) :
    (s.account p).core = s.core := by
  unfold State.account; (try dsimp only); (repeat' split) <;> first | (simp; done) | (simp; rfl) | rfl |
      exact foldl_keeps State.core _ (fun _ _ => by simp) _ _
@[simp] theorem State.account_service (s : State) (p : Nat) :
    (s.account p).service = s.service := by
  unfold State.account; (try dsimp only); (repeat' split) <;> first | (simp; done) | (simp; rfl) | rfl |
      exact foldl_keeps State.service _ (fun _ _ => by simp) _ _
@[simp] theorem State.account_yard (s : State) (p : Nat) :
    (s.account p).yard = s.yard := by
  unfold State.account; (try dsimp only); (repeat' split) <;> first | (simp; done) | (simp; rfl) | rfl |
      exact foldl_keeps State.yard _ (fun _ _ => by simp) _ _
@[simp] theorem State.account_roster (s : State) (p : Nat) :
    (s.account p).roster = s.roster := by
  unfold State.account; (try dsimp only); (repeat' split) <;> first | (simp; done) | (simp; rfl) | rfl |
      exact foldl_keeps State.roster _ (fun _ _ => by simp) _ _
@[simp] theorem State.offlineAt_core (s : State) (p : Nat) :
    (s.offlineAt p).core = s.core := by
  unfold State.offlineAt; (try dsimp only); (repeat' split) <;> first | (simp; done) | (simp; rfl) | rfl |
      exact foldl_keeps State.core _ (fun _ _ => by simp) _ _
@[simp] theorem State.offlineAt_jobs (s : State) (p : Nat) :
    (s.offlineAt p).jobs = s.jobs := by
  unfold State.offlineAt; (try dsimp only); (repeat' split) <;> first | (simp; done) | (simp; rfl) | rfl |
      exact foldl_keeps State.jobs _ (fun _ _ => by simp) _ _
@[simp] theorem State.offlineAt_fleet (s : State) (p : Nat) :
    (s.offlineAt p).fleet = s.fleet := fleet_of_jobs (by simp)
@[simp] theorem State.offlineAt_service (s : State) (p : Nat) :
    (s.offlineAt p).service = s.service := service_of_jobs (by simp)
@[simp] theorem State.offlineAt_yard (s : State) (p : Nat) :
    (s.offlineAt p).yard = s.yard := yard_of_jobs (by simp)
@[simp] theorem State.offlineAt_roster (s : State) (p : Nat) :
    (s.offlineAt p).roster = s.roster := roster_of_jobs (by simp)
@[simp] theorem State.cabinetOffline_core (s : State) (node : Nat) :
    (s.cabinetOffline node).core = s.core := by
  unfold State.cabinetOffline; (try dsimp only); (repeat' split) <;> first | (simp; done) | (simp; rfl) | rfl |
      exact foldl_keeps State.core _ (fun _ _ => by simp) _ _
@[simp] theorem State.cabinetOffline_jobs (s : State) (node : Nat) :
    (s.cabinetOffline node).jobs = s.jobs := by
  unfold State.cabinetOffline; (try dsimp only); (repeat' split) <;> first | (simp; done) | (simp; rfl) | rfl |
      exact foldl_keeps State.jobs _ (fun _ _ => by simp) _ _
@[simp] theorem State.cabinetOffline_fleet (s : State) (node : Nat) :
    (s.cabinetOffline node).fleet = s.fleet := fleet_of_jobs (by simp)
@[simp] theorem State.cabinetOffline_service (s : State) (node : Nat) :
    (s.cabinetOffline node).service = s.service := service_of_jobs (by simp)
@[simp] theorem State.cabinetOffline_yard (s : State) (node : Nat) :
    (s.cabinetOffline node).yard = s.yard := yard_of_jobs (by simp)
@[simp] theorem State.cabinetOffline_roster (s : State) (node : Nat) :
    (s.cabinetOffline node).roster = s.roster := roster_of_jobs (by simp)
@[simp] theorem State.endAllSessions_core (s : State) :
    (s.endAllSessions).core = s.core := by
  unfold State.endAllSessions; (try dsimp only); (repeat' split) <;> first | (simp; done) | (simp; rfl) | rfl |
      exact foldl_keeps State.core _ (fun _ _ => by simp) _ _
@[simp] theorem State.endAllSessions_jobs (s : State) :
    (s.endAllSessions).jobs = s.jobs := by
  unfold State.endAllSessions; (try dsimp only); (repeat' split) <;> first | (simp; done) | (simp; rfl) | rfl |
      exact foldl_keeps State.jobs _ (fun _ _ => by simp) _ _
@[simp] theorem State.endAllSessions_fleet (s : State) :
    (s.endAllSessions).fleet = s.fleet := fleet_of_jobs (by simp)
@[simp] theorem State.endAllSessions_service (s : State) :
    (s.endAllSessions).service = s.service := service_of_jobs (by simp)
@[simp] theorem State.endAllSessions_yard (s : State) :
    (s.endAllSessions).yard = s.yard := yard_of_jobs (by simp)
@[simp] theorem State.endAllSessions_roster (s : State) :
    (s.endAllSessions).roster = s.roster := roster_of_jobs (by simp)
@[simp] theorem State.refreshBudget_core (s : State) (kw : Nat) (src : Source) :
    (s.refreshBudget kw src).core = s.core := by
  unfold State.refreshBudget; (try dsimp only); (repeat' split) <;> first | (simp; done) | (simp; rfl) | rfl |
      exact foldl_keeps State.core _ (fun _ _ => by simp) _ _
@[simp] theorem State.refreshBudget_jobs (s : State) (kw : Nat) (src : Source) :
    (s.refreshBudget kw src).jobs = s.jobs := by
  unfold State.refreshBudget; (try dsimp only); (repeat' split) <;> first | (simp; done) | (simp; rfl) | rfl |
      exact foldl_keeps State.jobs _ (fun _ _ => by simp) _ _
@[simp] theorem State.refreshBudget_fleet (s : State) (kw : Nat) (src : Source) :
    (s.refreshBudget kw src).fleet = s.fleet := fleet_of_jobs (by simp)
@[simp] theorem State.refreshBudget_service (s : State) (kw : Nat) (src : Source) :
    (s.refreshBudget kw src).service = s.service := service_of_jobs (by simp)
@[simp] theorem State.refreshBudget_yard (s : State) (kw : Nat) (src : Source) :
    (s.refreshBudget kw src).yard = s.yard := yard_of_jobs (by simp)
@[simp] theorem State.refreshBudget_roster (s : State) (kw : Nat) (src : Source) :
    (s.refreshBudget kw src).roster = s.roster := roster_of_jobs (by simp)
@[simp] theorem State.staleBudget_core (s : State) :
    (s.staleBudget).core = s.core := by
  unfold State.staleBudget; (try dsimp only); (repeat' split) <;> first | (simp; done) | (simp; rfl) | rfl |
      exact foldl_keeps State.core _ (fun _ _ => by simp) _ _
@[simp] theorem State.staleBudget_jobs (s : State) :
    (s.staleBudget).jobs = s.jobs := by
  unfold State.staleBudget; (try dsimp only); (repeat' split) <;> first | (simp; done) | (simp; rfl) | rfl |
      exact foldl_keeps State.jobs _ (fun _ _ => by simp) _ _
@[simp] theorem State.staleBudget_fleet (s : State) :
    (s.staleBudget).fleet = s.fleet := fleet_of_jobs (by simp)
@[simp] theorem State.staleBudget_service (s : State) :
    (s.staleBudget).service = s.service := service_of_jobs (by simp)
@[simp] theorem State.staleBudget_yard (s : State) :
    (s.staleBudget).yard = s.yard := yard_of_jobs (by simp)
@[simp] theorem State.staleBudget_roster (s : State) :
    (s.staleBudget).roster = s.roster := roster_of_jobs (by simp)
@[simp] theorem State.startDeadline_core (s : State) :
    (s.startDeadline).core = s.core := by
  unfold State.startDeadline; (try dsimp only); (repeat' split) <;> first | (simp; done) | (simp; rfl) | rfl |
      exact foldl_keeps State.core _ (fun _ _ => by simp) _ _
@[simp] theorem State.startDeadline_jobs (s : State) :
    (s.startDeadline).jobs = s.jobs := by
  unfold State.startDeadline; (try dsimp only); (repeat' split) <;> first | (simp; done) | (simp; rfl) | rfl |
      exact foldl_keeps State.jobs _ (fun _ _ => by simp) _ _
@[simp] theorem State.startDeadline_fleet (s : State) :
    (s.startDeadline).fleet = s.fleet := fleet_of_jobs (by simp)
@[simp] theorem State.startDeadline_service (s : State) :
    (s.startDeadline).service = s.service := service_of_jobs (by simp)
@[simp] theorem State.startDeadline_yard (s : State) :
    (s.startDeadline).yard = s.yard := yard_of_jobs (by simp)
@[simp] theorem State.startDeadline_roster (s : State) :
    (s.startDeadline).roster = s.roster := roster_of_jobs (by simp)

end Sys2Proof.Machine
end

