-- ==== Sys2Proof/Laws/Lanes.lean ====
section
/-! SUPPORT. What each operation of the Lane Manager leaves alone: one lemma per view. -/

namespace Sys2Proof.Machine

@[simp] theorem State.recount_core (s : State) (l : Nat) :
    (s.recount l).core = s.core := by
  unfold State.recount; (try dsimp only); (repeat' split) <;> first | (simp; done) | (simp; rfl) | rfl |
      exact foldl_keeps State.core _ (fun _ _ => by simp) _ _
@[simp] theorem State.recount_fleet (s : State) (l : Nat) :
    (s.recount l).fleet = s.fleet := by
  unfold State.recount; (try dsimp only); (repeat' split) <;> first | (simp; done) | (simp; rfl) | rfl |
      exact foldl_keeps State.fleet _ (fun _ _ => by simp) _ _
@[simp] theorem State.recount_service (s : State) (l : Nat) :
    (s.recount l).service = s.service := by
  unfold State.recount; (try dsimp only); (repeat' split) <;> first | (simp; done) | (simp; rfl) | rfl |
      exact foldl_keeps State.service _ (fun _ _ => by simp) _ _
@[simp] theorem State.recount_energy (s : State) (l : Nat) :
    (s.recount l).energy = s.energy := by
  unfold State.recount; (try dsimp only); (repeat' split) <;> first | (simp; done) | (simp; rfl) | rfl |
      exact foldl_keeps State.energy _ (fun _ _ => by simp) _ _
@[simp] theorem State.recount_roster (s : State) (l : Nat) :
    (s.recount l).roster = s.roster := by
  unfold State.recount; (try dsimp only); (repeat' split) <;> first | (simp; done) | (simp; rfl) | rfl |
      exact foldl_keeps State.roster _ (fun _ _ => by simp) _ _
@[simp] theorem State.recount_bus (s : State) (l : Nat) :
    (s.recount l).bus = s.bus := by
  unfold State.recount; (try dsimp only); (repeat' split) <;> first | (simp; done) | (simp; rfl) | rfl |
      exact foldl_keeps State.bus _ (fun _ _ => by simp) _ _
@[simp] theorem State.recount_faults (s : State) (l : Nat) :
    (s.recount l).faults = s.faults := by
  unfold State.recount; (try dsimp only); (repeat' split) <;> first | (simp; done) | (simp; rfl) | rfl |
      exact foldl_keeps State.faults _ (fun _ _ => by simp) _ _
@[simp] theorem State.recountChanged_core (s : State) (l : Nat) :
    (s.recountChanged l).core = s.core := by
  unfold State.recountChanged; (try dsimp only); (repeat' split) <;> first | (simp; done) | (simp; rfl) | rfl |
      exact foldl_keeps State.core _ (fun _ _ => by simp) _ _
@[simp] theorem State.recountChanged_fleet (s : State) (l : Nat) :
    (s.recountChanged l).fleet = s.fleet := by
  unfold State.recountChanged; (try dsimp only); (repeat' split) <;> first | (simp; done) | (simp; rfl) | rfl |
      exact foldl_keeps State.fleet _ (fun _ _ => by simp) _ _
@[simp] theorem State.recountChanged_service (s : State) (l : Nat) :
    (s.recountChanged l).service = s.service := by
  unfold State.recountChanged; (try dsimp only); (repeat' split) <;> first | (simp; done) | (simp; rfl) | rfl |
      exact foldl_keeps State.service _ (fun _ _ => by simp) _ _
@[simp] theorem State.recountChanged_energy (s : State) (l : Nat) :
    (s.recountChanged l).energy = s.energy := by
  unfold State.recountChanged; (try dsimp only); (repeat' split) <;> first | (simp; done) | (simp; rfl) | rfl |
      exact foldl_keeps State.energy _ (fun _ _ => by simp) _ _
@[simp] theorem State.recountChanged_roster (s : State) (l : Nat) :
    (s.recountChanged l).roster = s.roster := by
  unfold State.recountChanged; (try dsimp only); (repeat' split) <;> first | (simp; done) | (simp; rfl) | rfl |
      exact foldl_keeps State.roster _ (fun _ _ => by simp) _ _
@[simp] theorem State.recountChanged_bus (s : State) (l : Nat) :
    (s.recountChanged l).bus = s.bus := by
  unfold State.recountChanged; (try dsimp only); (repeat' split) <;> first | (simp; done) | (simp; rfl) | rfl |
      exact foldl_keeps State.bus _ (fun _ _ => by simp) _ _
@[simp] theorem State.recountChanged_faults (s : State) (l : Nat) :
    (s.recountChanged l).faults = s.faults := by
  unfold State.recountChanged; (try dsimp only); (repeat' split) <;> first | (simp; done) | (simp; rfl) | rfl |
      exact foldl_keeps State.faults _ (fun _ _ => by simp) _ _
@[simp] theorem State.recountAll_core (s : State) :
    (s.recountAll).core = s.core := by
  unfold State.recountAll; (try dsimp only); (repeat' split) <;> first | (simp; done) | (simp; rfl) | rfl |
      exact foldl_keeps State.core _ (fun _ _ => by simp) _ _
@[simp] theorem State.recountAll_fleet (s : State) :
    (s.recountAll).fleet = s.fleet := by
  unfold State.recountAll; (try dsimp only); (repeat' split) <;> first | (simp; done) | (simp; rfl) | rfl |
      exact foldl_keeps State.fleet _ (fun _ _ => by simp) _ _
@[simp] theorem State.recountAll_service (s : State) :
    (s.recountAll).service = s.service := by
  unfold State.recountAll; (try dsimp only); (repeat' split) <;> first | (simp; done) | (simp; rfl) | rfl |
      exact foldl_keeps State.service _ (fun _ _ => by simp) _ _
@[simp] theorem State.recountAll_energy (s : State) :
    (s.recountAll).energy = s.energy := by
  unfold State.recountAll; (try dsimp only); (repeat' split) <;> first | (simp; done) | (simp; rfl) | rfl |
      exact foldl_keeps State.energy _ (fun _ _ => by simp) _ _
@[simp] theorem State.recountAll_roster (s : State) :
    (s.recountAll).roster = s.roster := by
  unfold State.recountAll; (try dsimp only); (repeat' split) <;> first | (simp; done) | (simp; rfl) | rfl |
      exact foldl_keeps State.roster _ (fun _ _ => by simp) _ _
@[simp] theorem State.recountAll_bus (s : State) :
    (s.recountAll).bus = s.bus := by
  unfold State.recountAll; (try dsimp only); (repeat' split) <;> first | (simp; done) | (simp; rfl) | rfl |
      exact foldl_keeps State.bus _ (fun _ _ => by simp) _ _
@[simp] theorem State.recountAll_faults (s : State) :
    (s.recountAll).faults = s.faults := by
  unfold State.recountAll; (try dsimp only); (repeat' split) <;> first | (simp; done) | (simp; rfl) | rfl |
      exact foldl_keeps State.faults _ (fun _ _ => by simp) _ _
@[simp] theorem State.addEntry_core (s : State) (l : Nat) (e : Entry) :
    (s.addEntry l e).core = s.core := by
  unfold State.addEntry; (try dsimp only); (repeat' split) <;> first | (simp; done) | (simp; rfl) | rfl |
      exact foldl_keeps State.core _ (fun _ _ => by simp) _ _
@[simp] theorem State.addEntry_fleet (s : State) (l : Nat) (e : Entry) :
    (s.addEntry l e).fleet = s.fleet := by
  unfold State.addEntry; (try dsimp only); (repeat' split) <;> first | (simp; done) | (simp; rfl) | rfl |
      exact foldl_keeps State.fleet _ (fun _ _ => by simp) _ _
@[simp] theorem State.addEntry_service (s : State) (l : Nat) (e : Entry) :
    (s.addEntry l e).service = s.service := by
  unfold State.addEntry; (try dsimp only); (repeat' split) <;> first | (simp; done) | (simp; rfl) | rfl |
      exact foldl_keeps State.service _ (fun _ _ => by simp) _ _
@[simp] theorem State.addEntry_energy (s : State) (l : Nat) (e : Entry) :
    (s.addEntry l e).energy = s.energy := by
  unfold State.addEntry; (try dsimp only); (repeat' split) <;> first | (simp; done) | (simp; rfl) | rfl |
      exact foldl_keeps State.energy _ (fun _ _ => by simp) _ _
@[simp] theorem State.addEntry_roster (s : State) (l : Nat) (e : Entry) :
    (s.addEntry l e).roster = s.roster := by
  unfold State.addEntry; (try dsimp only); (repeat' split) <;> first | (simp; done) | (simp; rfl) | rfl |
      exact foldl_keeps State.roster _ (fun _ _ => by simp) _ _
@[simp] theorem State.addEntry_bus (s : State) (l : Nat) (e : Entry) :
    (s.addEntry l e).bus = s.bus := by
  unfold State.addEntry; (try dsimp only); (repeat' split) <;> first | (simp; done) | (simp; rfl) | rfl |
      exact foldl_keeps State.bus _ (fun _ _ => by simp) _ _
@[simp] theorem State.addEntry_faults (s : State) (l : Nat) (e : Entry) :
    (s.addEntry l e).faults = s.faults := by
  unfold State.addEntry; (try dsimp only); (repeat' split) <;> first | (simp; done) | (simp; rfl) | rfl |
      exact foldl_keeps State.faults _ (fun _ _ => by simp) _ _
@[simp] theorem State.dropEntries_core (s : State) (l : Nat) (p : Entry → Bool) :
    (s.dropEntries l p).core = s.core := by
  unfold State.dropEntries; (try dsimp only); (repeat' split) <;> first | (simp; done) | (simp; rfl) | rfl |
      exact foldl_keeps State.core _ (fun _ _ => by simp) _ _
@[simp] theorem State.dropEntries_fleet (s : State) (l : Nat) (p : Entry → Bool) :
    (s.dropEntries l p).fleet = s.fleet := by
  unfold State.dropEntries; (try dsimp only); (repeat' split) <;> first | (simp; done) | (simp; rfl) | rfl |
      exact foldl_keeps State.fleet _ (fun _ _ => by simp) _ _
@[simp] theorem State.dropEntries_service (s : State) (l : Nat) (p : Entry → Bool) :
    (s.dropEntries l p).service = s.service := by
  unfold State.dropEntries; (try dsimp only); (repeat' split) <;> first | (simp; done) | (simp; rfl) | rfl |
      exact foldl_keeps State.service _ (fun _ _ => by simp) _ _
@[simp] theorem State.dropEntries_energy (s : State) (l : Nat) (p : Entry → Bool) :
    (s.dropEntries l p).energy = s.energy := by
  unfold State.dropEntries; (try dsimp only); (repeat' split) <;> first | (simp; done) | (simp; rfl) | rfl |
      exact foldl_keeps State.energy _ (fun _ _ => by simp) _ _
@[simp] theorem State.dropEntries_roster (s : State) (l : Nat) (p : Entry → Bool) :
    (s.dropEntries l p).roster = s.roster := by
  unfold State.dropEntries; (try dsimp only); (repeat' split) <;> first | (simp; done) | (simp; rfl) | rfl |
      exact foldl_keeps State.roster _ (fun _ _ => by simp) _ _
@[simp] theorem State.dropEntries_bus (s : State) (l : Nat) (p : Entry → Bool) :
    (s.dropEntries l p).bus = s.bus := by
  unfold State.dropEntries; (try dsimp only); (repeat' split) <;> first | (simp; done) | (simp; rfl) | rfl |
      exact foldl_keeps State.bus _ (fun _ _ => by simp) _ _
@[simp] theorem State.dropEntries_faults (s : State) (l : Nat) (p : Entry → Bool) :
    (s.dropEntries l p).faults = s.faults := by
  unfold State.dropEntries; (try dsimp only); (repeat' split) <;> first | (simp; done) | (simp; rfl) | rfl |
      exact foldl_keeps State.faults _ (fun _ _ => by simp) _ _
@[simp] theorem State.removeEntry_core (s : State) (l v pos : Nat) :
    (s.removeEntry l v pos).core = s.core := by
  unfold State.removeEntry; (try dsimp only); (repeat' split) <;> first | (simp; done) | (simp; rfl) | rfl |
      exact foldl_keeps State.core _ (fun _ _ => by simp) _ _
@[simp] theorem State.removeEntry_fleet (s : State) (l v pos : Nat) :
    (s.removeEntry l v pos).fleet = s.fleet := by
  unfold State.removeEntry; (try dsimp only); (repeat' split) <;> first | (simp; done) | (simp; rfl) | rfl |
      exact foldl_keeps State.fleet _ (fun _ _ => by simp) _ _
@[simp] theorem State.removeEntry_service (s : State) (l v pos : Nat) :
    (s.removeEntry l v pos).service = s.service := by
  unfold State.removeEntry; (try dsimp only); (repeat' split) <;> first | (simp; done) | (simp; rfl) | rfl |
      exact foldl_keeps State.service _ (fun _ _ => by simp) _ _
@[simp] theorem State.removeEntry_energy (s : State) (l v pos : Nat) :
    (s.removeEntry l v pos).energy = s.energy := by
  unfold State.removeEntry; (try dsimp only); (repeat' split) <;> first | (simp; done) | (simp; rfl) | rfl |
      exact foldl_keeps State.energy _ (fun _ _ => by simp) _ _
@[simp] theorem State.removeEntry_roster (s : State) (l v pos : Nat) :
    (s.removeEntry l v pos).roster = s.roster := by
  unfold State.removeEntry; (try dsimp only); (repeat' split) <;> first | (simp; done) | (simp; rfl) | rfl |
      exact foldl_keeps State.roster _ (fun _ _ => by simp) _ _
@[simp] theorem State.removeEntry_bus (s : State) (l v pos : Nat) :
    (s.removeEntry l v pos).bus = s.bus := by
  unfold State.removeEntry; (try dsimp only); (repeat' split) <;> first | (simp; done) | (simp; rfl) | rfl |
      exact foldl_keeps State.bus _ (fun _ _ => by simp) _ _
@[simp] theorem State.removeEntry_faults (s : State) (l v pos : Nat) :
    (s.removeEntry l v pos).faults = s.faults := by
  unfold State.removeEntry; (try dsimp only); (repeat' split) <;> first | (simp; done) | (simp; rfl) | rfl |
      exact foldl_keeps State.faults _ (fun _ _ => by simp) _ _
@[simp] theorem State.setMark_core (s : State) (l v pos : Nat) (m : Mark) :
    (s.setMark l v pos m).core = s.core := by
  unfold State.setMark; (try dsimp only); (repeat' split) <;> first | (simp; done) | (simp; rfl) | rfl |
      exact foldl_keeps State.core _ (fun _ _ => by simp) _ _
@[simp] theorem State.setMark_fleet (s : State) (l v pos : Nat) (m : Mark) :
    (s.setMark l v pos m).fleet = s.fleet := by
  unfold State.setMark; (try dsimp only); (repeat' split) <;> first | (simp; done) | (simp; rfl) | rfl |
      exact foldl_keeps State.fleet _ (fun _ _ => by simp) _ _
@[simp] theorem State.setMark_service (s : State) (l v pos : Nat) (m : Mark) :
    (s.setMark l v pos m).service = s.service := by
  unfold State.setMark; (try dsimp only); (repeat' split) <;> first | (simp; done) | (simp; rfl) | rfl |
      exact foldl_keeps State.service _ (fun _ _ => by simp) _ _
@[simp] theorem State.setMark_energy (s : State) (l v pos : Nat) (m : Mark) :
    (s.setMark l v pos m).energy = s.energy := by
  unfold State.setMark; (try dsimp only); (repeat' split) <;> first | (simp; done) | (simp; rfl) | rfl |
      exact foldl_keeps State.energy _ (fun _ _ => by simp) _ _
@[simp] theorem State.setMark_roster (s : State) (l v pos : Nat) (m : Mark) :
    (s.setMark l v pos m).roster = s.roster := by
  unfold State.setMark; (try dsimp only); (repeat' split) <;> first | (simp; done) | (simp; rfl) | rfl |
      exact foldl_keeps State.roster _ (fun _ _ => by simp) _ _
@[simp] theorem State.setMark_bus (s : State) (l v pos : Nat) (m : Mark) :
    (s.setMark l v pos m).bus = s.bus := by
  unfold State.setMark; (try dsimp only); (repeat' split) <;> first | (simp; done) | (simp; rfl) | rfl |
      exact foldl_keeps State.bus _ (fun _ _ => by simp) _ _
@[simp] theorem State.setMark_notices (s : State) (l v pos : Nat) (m : Mark) :
    (s.setMark l v pos m).notices = s.notices := by
  unfold State.setMark; (try dsimp only); (repeat' split) <;> first | (simp; done) | (simp; rfl) | rfl |
      exact foldl_keeps State.notices _ (fun _ _ => by simp) _ _
@[simp] theorem State.setMark_faults (s : State) (l v pos : Nat) (m : Mark) :
    (s.setMark l v pos m).faults = s.faults := by
  unfold State.setMark; (try dsimp only); (repeat' split) <;> first | (simp; done) | (simp; rfl) | rfl |
      exact foldl_keeps State.faults _ (fun _ _ => by simp) _ _
@[simp] theorem State.unverify_core (s : State) (l : Nat) :
    (s.unverify l).core = s.core := by
  unfold State.unverify; (try dsimp only); (repeat' split) <;> first | (simp; done) | (simp; rfl) | rfl |
      exact foldl_keeps State.core _ (fun _ _ => by simp) _ _
@[simp] theorem State.unverify_fleet (s : State) (l : Nat) :
    (s.unverify l).fleet = s.fleet := by
  unfold State.unverify; (try dsimp only); (repeat' split) <;> first | (simp; done) | (simp; rfl) | rfl |
      exact foldl_keeps State.fleet _ (fun _ _ => by simp) _ _
@[simp] theorem State.unverify_service (s : State) (l : Nat) :
    (s.unverify l).service = s.service := by
  unfold State.unverify; (try dsimp only); (repeat' split) <;> first | (simp; done) | (simp; rfl) | rfl |
      exact foldl_keeps State.service _ (fun _ _ => by simp) _ _
@[simp] theorem State.unverify_energy (s : State) (l : Nat) :
    (s.unverify l).energy = s.energy := by
  unfold State.unverify; (try dsimp only); (repeat' split) <;> first | (simp; done) | (simp; rfl) | rfl |
      exact foldl_keeps State.energy _ (fun _ _ => by simp) _ _
@[simp] theorem State.unverify_roster (s : State) (l : Nat) :
    (s.unverify l).roster = s.roster := by
  unfold State.unverify; (try dsimp only); (repeat' split) <;> first | (simp; done) | (simp; rfl) | rfl |
      exact foldl_keeps State.roster _ (fun _ _ => by simp) _ _
@[simp] theorem State.unverify_bus (s : State) (l : Nat) :
    (s.unverify l).bus = s.bus := by
  unfold State.unverify; (try dsimp only); (repeat' split) <;> first | (simp; done) | (simp; rfl) | rfl |
      exact foldl_keeps State.bus _ (fun _ _ => by simp) _ _
@[simp] theorem State.unverify_notices (s : State) (l : Nat) :
    (s.unverify l).notices = s.notices := by
  unfold State.unverify; (try dsimp only); (repeat' split) <;> first | (simp; done) | (simp; rfl) | rfl |
      exact foldl_keeps State.notices _ (fun _ _ => by simp) _ _
@[simp] theorem State.unverify_faults (s : State) (l : Nat) :
    (s.unverify l).faults = s.faults := by
  unfold State.unverify; (try dsimp only); (repeat' split) <;> first | (simp; done) | (simp; rfl) | rfl |
      exact foldl_keeps State.faults _ (fun _ _ => by simp) _ _
@[simp] theorem State.shut_core (s : State) (l : Nat) :
    (s.shut l).core = s.core := by
  unfold State.shut; (try dsimp only); (repeat' split) <;> first | (simp; done) | (simp; rfl) | rfl |
      exact foldl_keeps State.core _ (fun _ _ => by simp) _ _
@[simp] theorem State.shut_fleet (s : State) (l : Nat) :
    (s.shut l).fleet = s.fleet := by
  unfold State.shut; (try dsimp only); (repeat' split) <;> first | (simp; done) | (simp; rfl) | rfl |
      exact foldl_keeps State.fleet _ (fun _ _ => by simp) _ _
@[simp] theorem State.shut_service (s : State) (l : Nat) :
    (s.shut l).service = s.service := by
  unfold State.shut; (try dsimp only); (repeat' split) <;> first | (simp; done) | (simp; rfl) | rfl |
      exact foldl_keeps State.service _ (fun _ _ => by simp) _ _
@[simp] theorem State.shut_energy (s : State) (l : Nat) :
    (s.shut l).energy = s.energy := by
  unfold State.shut; (try dsimp only); (repeat' split) <;> first | (simp; done) | (simp; rfl) | rfl |
      exact foldl_keeps State.energy _ (fun _ _ => by simp) _ _
@[simp] theorem State.shut_roster (s : State) (l : Nat) :
    (s.shut l).roster = s.roster := by
  unfold State.shut; (try dsimp only); (repeat' split) <;> first | (simp; done) | (simp; rfl) | rfl |
      exact foldl_keeps State.roster _ (fun _ _ => by simp) _ _
@[simp] theorem State.shut_bus (s : State) (l : Nat) :
    (s.shut l).bus = s.bus := by
  unfold State.shut; (try dsimp only); (repeat' split) <;> first | (simp; done) | (simp; rfl) | rfl |
      exact foldl_keeps State.bus _ (fun _ _ => by simp) _ _
@[simp] theorem State.shut_notices (s : State) (l : Nat) :
    (s.shut l).notices = s.notices := by
  unfold State.shut; (try dsimp only); (repeat' split) <;> first | (simp; done) | (simp; rfl) | rfl |
      exact foldl_keeps State.notices _ (fun _ _ => by simp) _ _
@[simp] theorem State.shut_faults (s : State) (l : Nat) :
    (s.shut l).faults = s.faults := by
  unfold State.shut; (try dsimp only); (repeat' split) <;> first | (simp; done) | (simp; rfl) | rfl |
      exact foldl_keeps State.faults _ (fun _ _ => by simp) _ _
@[simp] theorem State.mismatch_core (s : State) (l : Nat) :
    (s.mismatch l).core = s.core := by
  unfold State.mismatch; (try dsimp only); (repeat' split) <;> first | (simp; done) | (simp; rfl) | rfl |
      exact foldl_keeps State.core _ (fun _ _ => by simp) _ _
@[simp] theorem State.mismatch_fleet (s : State) (l : Nat) :
    (s.mismatch l).fleet = s.fleet := by
  unfold State.mismatch; (try dsimp only); (repeat' split) <;> first | (simp; done) | (simp; rfl) | rfl |
      exact foldl_keeps State.fleet _ (fun _ _ => by simp) _ _
@[simp] theorem State.mismatch_service (s : State) (l : Nat) :
    (s.mismatch l).service = s.service := by
  unfold State.mismatch; (try dsimp only); (repeat' split) <;> first | (simp; done) | (simp; rfl) | rfl |
      exact foldl_keeps State.service _ (fun _ _ => by simp) _ _
@[simp] theorem State.mismatch_energy (s : State) (l : Nat) :
    (s.mismatch l).energy = s.energy := by
  unfold State.mismatch; (try dsimp only); (repeat' split) <;> first | (simp; done) | (simp; rfl) | rfl |
      exact foldl_keeps State.energy _ (fun _ _ => by simp) _ _
@[simp] theorem State.mismatch_roster (s : State) (l : Nat) :
    (s.mismatch l).roster = s.roster := by
  unfold State.mismatch; (try dsimp only); (repeat' split) <;> first | (simp; done) | (simp; rfl) | rfl |
      exact foldl_keeps State.roster _ (fun _ _ => by simp) _ _
@[simp] theorem State.mismatch_bus (s : State) (l : Nat) :
    (s.mismatch l).bus = s.bus := by
  unfold State.mismatch; (try dsimp only); (repeat' split) <;> first | (simp; done) | (simp; rfl) | rfl |
      exact foldl_keeps State.bus _ (fun _ _ => by simp) _ _
@[simp] theorem State.freeSpots_core (s : State) (ns : List Nat) :
    (s.freeSpots ns).core = s.core := by
  unfold State.freeSpots; (try dsimp only); (repeat' split) <;> first | (simp; done) | (simp; rfl) | rfl |
      exact foldl_keeps State.core _ (fun _ _ => by simp) _ _
@[simp] theorem State.freeSpots_fleet (s : State) (ns : List Nat) :
    (s.freeSpots ns).fleet = s.fleet := by
  unfold State.freeSpots; (try dsimp only); (repeat' split) <;> first | (simp; done) | (simp; rfl) | rfl |
      exact foldl_keeps State.fleet _ (fun _ _ => by simp) _ _
@[simp] theorem State.freeSpots_service (s : State) (ns : List Nat) :
    (s.freeSpots ns).service = s.service := by
  unfold State.freeSpots; (try dsimp only); (repeat' split) <;> first | (simp; done) | (simp; rfl) | rfl |
      exact foldl_keeps State.service _ (fun _ _ => by simp) _ _
@[simp] theorem State.freeSpots_energy (s : State) (ns : List Nat) :
    (s.freeSpots ns).energy = s.energy := by
  unfold State.freeSpots; (try dsimp only); (repeat' split) <;> first | (simp; done) | (simp; rfl) | rfl |
      exact foldl_keeps State.energy _ (fun _ _ => by simp) _ _
@[simp] theorem State.freeSpots_roster (s : State) (ns : List Nat) :
    (s.freeSpots ns).roster = s.roster := by
  unfold State.freeSpots; (try dsimp only); (repeat' split) <;> first | (simp; done) | (simp; rfl) | rfl |
      exact foldl_keeps State.roster _ (fun _ _ => by simp) _ _
@[simp] theorem State.freeSpots_bus (s : State) (ns : List Nat) :
    (s.freeSpots ns).bus = s.bus := by
  unfold State.freeSpots; (try dsimp only); (repeat' split) <;> first | (simp; done) | (simp; rfl) | rfl |
      exact foldl_keeps State.bus _ (fun _ _ => by simp) _ _
@[simp] theorem State.freeSpots_notices (s : State) (ns : List Nat) :
    (s.freeSpots ns).notices = s.notices := by
  unfold State.freeSpots; (try dsimp only); (repeat' split) <;> first | (simp; done) | (simp; rfl) | rfl |
      exact foldl_keeps State.notices _ (fun _ _ => by simp) _ _
@[simp] theorem State.freeSpots_faults (s : State) (ns : List Nat) :
    (s.freeSpots ns).faults = s.faults := by
  unfold State.freeSpots; (try dsimp only); (repeat' split) <;> first | (simp; done) | (simp; rfl) | rfl |
      exact foldl_keeps State.faults _ (fun _ _ => by simp) _ _
@[simp] theorem State.freeSpotsOf_core (s : State) (v : Nat) :
    (s.freeSpotsOf v).core = s.core := by
  unfold State.freeSpotsOf; (try dsimp only); (repeat' split) <;> first | (simp; done) | (simp; rfl) | rfl |
      exact foldl_keeps State.core _ (fun _ _ => by simp) _ _
@[simp] theorem State.freeSpotsOf_fleet (s : State) (v : Nat) :
    (s.freeSpotsOf v).fleet = s.fleet := by
  unfold State.freeSpotsOf; (try dsimp only); (repeat' split) <;> first | (simp; done) | (simp; rfl) | rfl |
      exact foldl_keeps State.fleet _ (fun _ _ => by simp) _ _
@[simp] theorem State.freeSpotsOf_service (s : State) (v : Nat) :
    (s.freeSpotsOf v).service = s.service := by
  unfold State.freeSpotsOf; (try dsimp only); (repeat' split) <;> first | (simp; done) | (simp; rfl) | rfl |
      exact foldl_keeps State.service _ (fun _ _ => by simp) _ _
@[simp] theorem State.freeSpotsOf_energy (s : State) (v : Nat) :
    (s.freeSpotsOf v).energy = s.energy := by
  unfold State.freeSpotsOf; (try dsimp only); (repeat' split) <;> first | (simp; done) | (simp; rfl) | rfl |
      exact foldl_keeps State.energy _ (fun _ _ => by simp) _ _
@[simp] theorem State.freeSpotsOf_roster (s : State) (v : Nat) :
    (s.freeSpotsOf v).roster = s.roster := by
  unfold State.freeSpotsOf; (try dsimp only); (repeat' split) <;> first | (simp; done) | (simp; rfl) | rfl |
      exact foldl_keeps State.roster _ (fun _ _ => by simp) _ _
@[simp] theorem State.freeSpotsOf_bus (s : State) (v : Nat) :
    (s.freeSpotsOf v).bus = s.bus := by
  unfold State.freeSpotsOf; (try dsimp only); (repeat' split) <;> first | (simp; done) | (simp; rfl) | rfl |
      exact foldl_keeps State.bus _ (fun _ _ => by simp) _ _
@[simp] theorem State.freeSpotsOf_notices (s : State) (v : Nat) :
    (s.freeSpotsOf v).notices = s.notices := by
  unfold State.freeSpotsOf; (try dsimp only); (repeat' split) <;> first | (simp; done) | (simp; rfl) | rfl |
      exact foldl_keeps State.notices _ (fun _ _ => by simp) _ _
@[simp] theorem State.freeSpotsOf_faults (s : State) (v : Nat) :
    (s.freeSpotsOf v).faults = s.faults := by
  unfold State.freeSpotsOf; (try dsimp only); (repeat' split) <;> first | (simp; done) | (simp; rfl) | rfl |
      exact foldl_keeps State.faults _ (fun _ _ => by simp) _ _
@[simp] theorem State.headFor_core (s : State) (v l deadline : Nat) :
    (s.headFor v l deadline).core = s.core := by
  unfold State.headFor; (try dsimp only); (repeat' split) <;> first | (simp; done) | (simp; rfl) | rfl |
      exact foldl_keeps State.core _ (fun _ _ => by simp) _ _
@[simp] theorem State.headFor_service (s : State) (v l deadline : Nat) :
    (s.headFor v l deadline).service = s.service := by
  unfold State.headFor; (try dsimp only); (repeat' split) <;> first | (simp; done) | (simp; rfl) | rfl |
      exact foldl_keeps State.service _ (fun _ _ => by simp) _ _
@[simp] theorem State.headFor_energy (s : State) (v l deadline : Nat) :
    (s.headFor v l deadline).energy = s.energy := by
  unfold State.headFor; (try dsimp only); (repeat' split) <;> first | (simp; done) | (simp; rfl) | rfl |
      exact foldl_keeps State.energy _ (fun _ _ => by simp) _ _
@[simp] theorem State.headFor_roster (s : State) (v l deadline : Nat) :
    (s.headFor v l deadline).roster = s.roster := by
  unfold State.headFor; (try dsimp only); (repeat' split) <;> first | (simp; done) | (simp; rfl) | rfl |
      exact foldl_keeps State.roster _ (fun _ _ => by simp) _ _
@[simp] theorem State.headFor_bus (s : State) (v l deadline : Nat) :
    (s.headFor v l deadline).bus = s.bus := by
  unfold State.headFor; (try dsimp only); (repeat' split) <;> first | (simp; done) | (simp; rfl) | rfl |
      exact foldl_keeps State.bus _ (fun _ _ => by simp) _ _
@[simp] theorem State.headFor_faults (s : State) (v l deadline : Nat) :
    (s.headFor v l deadline).faults = s.faults := by
  unfold State.headFor; (try dsimp only); (repeat' split) <;> first | (simp; done) | (simp; rfl) | rfl |
      exact foldl_keeps State.faults _ (fun _ _ => by simp) _ _
theorem State.tryPlace_core {s s' : State} {v n : Nat} (h : s.tryPlace v n = some s') : s'.core = s.core := by
  unfold State.tryPlace at h
  split at h
  · split at h
    · dsimp only at h
      split at h <;> cases h <;> simp
    · cases h; simp
    · cases h
  · cases h
theorem State.tryPlace_service {s s' : State} {v n : Nat} (h : s.tryPlace v n = some s') : s'.service = s.service := by
  unfold State.tryPlace at h
  split at h
  · split at h
    · dsimp only at h
      split at h <;> cases h <;> simp
    · cases h; simp
    · cases h
  · cases h
theorem State.tryPlace_roster {s s' : State} {v n : Nat} (h : s.tryPlace v n = some s') : s'.roster = s.roster := by
  unfold State.tryPlace at h
  split at h
  · split at h
    · dsimp only at h
      split at h <;> cases h <;> simp
    · cases h; simp
    · cases h
  · cases h
@[simp] theorem State.strand_core (s : State) (v : Nat) (loc : Loc) :
    (s.strand v loc).core = s.core := by
  unfold State.strand; (try dsimp only); (repeat' split) <;> first | (simp; done) | (simp; rfl) | rfl |
      exact foldl_keeps State.core _ (fun _ _ => by simp) _ _
@[simp] theorem State.strand_service (s : State) (v : Nat) (loc : Loc) :
    (s.strand v loc).service = s.service := by
  unfold State.strand; (try dsimp only); (repeat' split) <;> first | (simp; done) | (simp; rfl) | rfl |
      exact foldl_keeps State.service _ (fun _ _ => by simp) _ _
@[simp] theorem State.strand_energy (s : State) (v : Nat) (loc : Loc) :
    (s.strand v loc).energy = s.energy := by
  unfold State.strand; (try dsimp only); (repeat' split) <;> first | (simp; done) | (simp; rfl) | rfl |
      exact foldl_keeps State.energy _ (fun _ _ => by simp) _ _
@[simp] theorem State.strand_roster (s : State) (v : Nat) (loc : Loc) :
    (s.strand v loc).roster = s.roster := by
  unfold State.strand; (try dsimp only); (repeat' split) <;> first | (simp; done) | (simp; rfl) | rfl |
      exact foldl_keeps State.roster _ (fun _ _ => by simp) _ _
@[simp] theorem State.strand_bus (s : State) (v : Nat) (loc : Loc) :
    (s.strand v loc).bus = s.bus := by
  unfold State.strand; (try dsimp only); (repeat' split) <;> first | (simp; done) | (simp; rfl) | rfl |
      exact foldl_keeps State.bus _ (fun _ _ => by simp) _ _
@[simp] theorem State.unstrand_core (s : State) (v : Nat) :
    (s.unstrand v).core = s.core := by
  unfold State.unstrand; (try dsimp only); (repeat' split) <;> first | (simp; done) | (simp; rfl) | rfl |
      exact foldl_keeps State.core _ (fun _ _ => by simp) _ _
@[simp] theorem State.unstrand_fleet (s : State) (v : Nat) :
    (s.unstrand v).fleet = s.fleet := by
  unfold State.unstrand; (try dsimp only); (repeat' split) <;> first | (simp; done) | (simp; rfl) | rfl |
      exact foldl_keeps State.fleet _ (fun _ _ => by simp) _ _
@[simp] theorem State.unstrand_service (s : State) (v : Nat) :
    (s.unstrand v).service = s.service := by
  unfold State.unstrand; (try dsimp only); (repeat' split) <;> first | (simp; done) | (simp; rfl) | rfl |
      exact foldl_keeps State.service _ (fun _ _ => by simp) _ _
@[simp] theorem State.unstrand_energy (s : State) (v : Nat) :
    (s.unstrand v).energy = s.energy := by
  unfold State.unstrand; (try dsimp only); (repeat' split) <;> first | (simp; done) | (simp; rfl) | rfl |
      exact foldl_keeps State.energy _ (fun _ _ => by simp) _ _
@[simp] theorem State.unstrand_roster (s : State) (v : Nat) :
    (s.unstrand v).roster = s.roster := by
  unfold State.unstrand; (try dsimp only); (repeat' split) <;> first | (simp; done) | (simp; rfl) | rfl |
      exact foldl_keeps State.roster _ (fun _ _ => by simp) _ _
@[simp] theorem State.unstrand_bus (s : State) (v : Nat) :
    (s.unstrand v).bus = s.bus := by
  unfold State.unstrand; (try dsimp only); (repeat' split) <;> first | (simp; done) | (simp; rfl) | rfl |
      exact foldl_keeps State.bus _ (fun _ _ => by simp) _ _
@[simp] theorem State.unstrand_notices (s : State) (v : Nat) :
    (s.unstrand v).notices = s.notices := by
  unfold State.unstrand; (try dsimp only); (repeat' split) <;> first | (simp; done) | (simp; rfl) | rfl |
      exact foldl_keeps State.notices _ (fun _ _ => by simp) _ _
@[simp] theorem State.unstrand_faults (s : State) (v : Nat) :
    (s.unstrand v).faults = s.faults := by
  unfold State.unstrand; (try dsimp only); (repeat' split) <;> first | (simp; done) | (simp; rfl) | rfl |
      exact foldl_keeps State.faults _ (fun _ _ => by simp) _ _
@[simp] theorem State.closeMove_core (s : State) (v : Nat) :
    (s.closeMove v).core = s.core := by
  unfold State.closeMove; (try dsimp only); (repeat' split) <;> first | (simp; done) | (simp; rfl) | rfl |
      exact foldl_keeps State.core _ (fun _ _ => by simp) _ _
@[simp] theorem State.closeMove_fleet (s : State) (v : Nat) :
    (s.closeMove v).fleet = s.fleet := by
  unfold State.closeMove; (try dsimp only); (repeat' split) <;> first | (simp; done) | (simp; rfl) | rfl |
      exact foldl_keeps State.fleet _ (fun _ _ => by simp) _ _
@[simp] theorem State.closeMove_service (s : State) (v : Nat) :
    (s.closeMove v).service = s.service := by
  unfold State.closeMove; (try dsimp only); (repeat' split) <;> first | (simp; done) | (simp; rfl) | rfl |
      exact foldl_keeps State.service _ (fun _ _ => by simp) _ _
@[simp] theorem State.closeMove_energy (s : State) (v : Nat) :
    (s.closeMove v).energy = s.energy := by
  unfold State.closeMove; (try dsimp only); (repeat' split) <;> first | (simp; done) | (simp; rfl) | rfl |
      exact foldl_keeps State.energy _ (fun _ _ => by simp) _ _
@[simp] theorem State.closeMove_roster (s : State) (v : Nat) :
    (s.closeMove v).roster = s.roster := by
  unfold State.closeMove; (try dsimp only); (repeat' split) <;> first | (simp; done) | (simp; rfl) | rfl |
      exact foldl_keeps State.roster _ (fun _ _ => by simp) _ _
@[simp] theorem State.closeMove_bus (s : State) (v : Nat) :
    (s.closeMove v).bus = s.bus := by
  unfold State.closeMove; (try dsimp only); (repeat' split) <;> first | (simp; done) | (simp; rfl) | rfl |
      exact foldl_keeps State.bus _ (fun _ _ => by simp) _ _
@[simp] theorem State.closeMove_notices (s : State) (v : Nat) :
    (s.closeMove v).notices = s.notices := by
  unfold State.closeMove; (try dsimp only); (repeat' split) <;> first | (simp; done) | (simp; rfl) | rfl |
      exact foldl_keeps State.notices _ (fun _ _ => by simp) _ _
@[simp] theorem State.closeMove_faults (s : State) (v : Nat) :
    (s.closeMove v).faults = s.faults := by
  unfold State.closeMove; (try dsimp only); (repeat' split) <;> first | (simp; done) | (simp; rfl) | rfl |
      exact foldl_keeps State.faults _ (fun _ _ => by simp) _ _
@[simp] theorem State.berthCleared_core (s : State) (v : Nat) :
    (s.berthCleared v).core = s.core := by
  unfold State.berthCleared; (try dsimp only); (repeat' split) <;> first | (simp; done) | (simp; rfl) | rfl |
      exact foldl_keeps State.core _ (fun _ _ => by simp) _ _
@[simp] theorem State.berthCleared_fleet (s : State) (v : Nat) :
    (s.berthCleared v).fleet = s.fleet := by
  unfold State.berthCleared; (try dsimp only); (repeat' split) <;> first | (simp; done) | (simp; rfl) | rfl |
      exact foldl_keeps State.fleet _ (fun _ _ => by simp) _ _
@[simp] theorem State.berthCleared_service (s : State) (v : Nat) :
    (s.berthCleared v).service = s.service := by
  unfold State.berthCleared; (try dsimp only); (repeat' split) <;> first | (simp; done) | (simp; rfl) | rfl |
      exact foldl_keeps State.service _ (fun _ _ => by simp) _ _
@[simp] theorem State.berthCleared_yard (s : State) (v : Nat) :
    (s.berthCleared v).yard = s.yard := by
  unfold State.berthCleared; (try dsimp only); (repeat' split) <;> first | (simp; done) | (simp; rfl) | rfl |
      exact foldl_keeps State.yard _ (fun _ _ => by simp) _ _
@[simp] theorem State.berthCleared_energy (s : State) (v : Nat) :
    (s.berthCleared v).energy = s.energy := by
  unfold State.berthCleared; (try dsimp only); (repeat' split) <;> first | (simp; done) | (simp; rfl) | rfl |
      exact foldl_keeps State.energy _ (fun _ _ => by simp) _ _
@[simp] theorem State.berthCleared_bus (s : State) (v : Nat) :
    (s.berthCleared v).bus = s.bus := by
  unfold State.berthCleared; (try dsimp only); (repeat' split) <;> first | (simp; done) | (simp; rfl) | rfl |
      exact foldl_keeps State.bus _ (fun _ _ => by simp) _ _
@[simp] theorem State.berthCleared_notices (s : State) (v : Nat) :
    (s.berthCleared v).notices = s.notices := by
  unfold State.berthCleared; (try dsimp only); (repeat' split) <;> first | (simp; done) | (simp; rfl) | rfl |
      exact foldl_keeps State.notices _ (fun _ _ => by simp) _ _
@[simp] theorem State.berthCleared_faults (s : State) (v : Nat) :
    (s.berthCleared v).faults = s.faults := by
  unfold State.berthCleared; (try dsimp only); (repeat' split) <;> first | (simp; done) | (simp; rfl) | rfl |
      exact foldl_keeps State.faults _ (fun _ _ => by simp) _ _
@[simp] theorem State.confirmArrival_core (s : State) (l : Nat) (e : Entry) :
    (s.confirmArrival l e).core = s.core := by
  unfold State.confirmArrival; (try dsimp only); (repeat' split) <;> first | (simp; done) | (simp; rfl) | rfl |
      exact foldl_keeps State.core _ (fun _ _ => by simp) _ _
@[simp] theorem State.confirmArrival_service (s : State) (l : Nat) (e : Entry) :
    (s.confirmArrival l e).service = s.service := by
  unfold State.confirmArrival; (try dsimp only); (repeat' split) <;> first | (simp; done) | (simp; rfl) | rfl |
      exact foldl_keeps State.service _ (fun _ _ => by simp) _ _
@[simp] theorem State.confirmArrival_roster (s : State) (l : Nat) (e : Entry) :
    (s.confirmArrival l e).roster = s.roster := by
  unfold State.confirmArrival; (try dsimp only); (repeat' split) <;> first | (simp; done) | (simp; rfl) | rfl |
      exact foldl_keeps State.roster _ (fun _ _ => by simp) _ _
@[simp] theorem State.shutIfClosing_core (s : State) (l : Nat) :
    (s.shutIfClosing l).core = s.core := by
  unfold State.shutIfClosing; (try dsimp only); (repeat' split) <;> first | (simp; done) | (simp; rfl) | rfl |
      exact foldl_keeps State.core _ (fun _ _ => by simp) _ _
@[simp] theorem State.shutIfClosing_fleet (s : State) (l : Nat) :
    (s.shutIfClosing l).fleet = s.fleet := by
  unfold State.shutIfClosing; (try dsimp only); (repeat' split) <;> first | (simp; done) | (simp; rfl) | rfl |
      exact foldl_keeps State.fleet _ (fun _ _ => by simp) _ _
@[simp] theorem State.shutIfClosing_service (s : State) (l : Nat) :
    (s.shutIfClosing l).service = s.service := by
  unfold State.shutIfClosing; (try dsimp only); (repeat' split) <;> first | (simp; done) | (simp; rfl) | rfl |
      exact foldl_keeps State.service _ (fun _ _ => by simp) _ _
@[simp] theorem State.shutIfClosing_energy (s : State) (l : Nat) :
    (s.shutIfClosing l).energy = s.energy := by
  unfold State.shutIfClosing; (try dsimp only); (repeat' split) <;> first | (simp; done) | (simp; rfl) | rfl |
      exact foldl_keeps State.energy _ (fun _ _ => by simp) _ _
@[simp] theorem State.shutIfClosing_roster (s : State) (l : Nat) :
    (s.shutIfClosing l).roster = s.roster := by
  unfold State.shutIfClosing; (try dsimp only); (repeat' split) <;> first | (simp; done) | (simp; rfl) | rfl |
      exact foldl_keeps State.roster _ (fun _ _ => by simp) _ _
@[simp] theorem State.shutIfClosing_bus (s : State) (l : Nat) :
    (s.shutIfClosing l).bus = s.bus := by
  unfold State.shutIfClosing; (try dsimp only); (repeat' split) <;> first | (simp; done) | (simp; rfl) | rfl |
      exact foldl_keeps State.bus _ (fun _ _ => by simp) _ _
@[simp] theorem State.shutIfClosing_notices (s : State) (l : Nat) :
    (s.shutIfClosing l).notices = s.notices := by
  unfold State.shutIfClosing; (try dsimp only); (repeat' split) <;> first | (simp; done) | (simp; rfl) | rfl |
      exact foldl_keeps State.notices _ (fun _ _ => by simp) _ _
@[simp] theorem State.shutIfClosing_faults (s : State) (l : Nat) :
    (s.shutIfClosing l).faults = s.faults := by
  unfold State.shutIfClosing; (try dsimp only); (repeat' split) <;> first | (simp; done) | (simp; rfl) | rfl |
      exact foldl_keeps State.faults _ (fun _ _ => by simp) _ _
@[simp] theorem State.confirmLeft_core (s : State) (l : Nat) (e : Entry) :
    (s.confirmLeft l e).core = s.core := by
  unfold State.confirmLeft; (try dsimp only); (repeat' split) <;> first | (simp; done) | (simp; rfl) | rfl |
      exact foldl_keeps State.core _ (fun _ _ => by simp) _ _
@[simp] theorem State.confirmLeft_service (s : State) (l : Nat) (e : Entry) :
    (s.confirmLeft l e).service = s.service := by
  unfold State.confirmLeft; (try dsimp only); (repeat' split) <;> first | (simp; done) | (simp; rfl) | rfl |
      exact foldl_keeps State.service _ (fun _ _ => by simp) _ _
@[simp] theorem State.confirmLeft_energy (s : State) (l : Nat) (e : Entry) :
    (s.confirmLeft l e).energy = s.energy := by
  unfold State.confirmLeft; (try dsimp only); (repeat' split) <;> first | (simp; done) | (simp; rfl) | rfl |
      exact foldl_keeps State.energy _ (fun _ _ => by simp) _ _
@[simp] theorem State.confirmLeft_bus (s : State) (l : Nat) (e : Entry) :
    (s.confirmLeft l e).bus = s.bus := by
  unfold State.confirmLeft; (try dsimp only); (repeat' split) <;> first | (simp; done) | (simp; rfl) | rfl |
      exact foldl_keeps State.bus _ (fun _ _ => by simp) _ _
@[simp] theorem State.confirmLeft_faults (s : State) (l : Nat) (e : Entry) :
    (s.confirmLeft l e).faults = s.faults := by
  unfold State.confirmLeft; (try dsimp only); (repeat' split) <;> first | (simp; done) | (simp; rfl) | rfl |
      exact foldl_keeps State.faults _ (fun _ _ => by simp) _ _
@[simp] theorem State.occupiedAt_core (l : Nat) (before : Lane) (s : State) (pos : Nat) :
    (State.occupiedAt l before s pos).core = s.core := by
  unfold State.occupiedAt; (try dsimp only); (repeat' split) <;> first | (simp; done) | (simp; rfl) | rfl |
      exact foldl_keeps State.core _ (fun _ _ => by simp) _ _
@[simp] theorem State.occupiedAt_service (l : Nat) (before : Lane) (s : State) (pos : Nat) :
    (State.occupiedAt l before s pos).service = s.service := by
  unfold State.occupiedAt; (try dsimp only); (repeat' split) <;> first | (simp; done) | (simp; rfl) | rfl |
      exact foldl_keeps State.service _ (fun _ _ => by simp) _ _
@[simp] theorem State.emptiedAt_core (l : Nat) (before : Lane) (s : State) (pos : Nat) :
    (State.emptiedAt l before s pos).core = s.core := by
  unfold State.emptiedAt; (try dsimp only); (repeat' split) <;> first | (simp; done) | (simp; rfl) | rfl |
      exact foldl_keeps State.core _ (fun _ _ => by simp) _ _
@[simp] theorem State.emptiedAt_service (l : Nat) (before : Lane) (s : State) (pos : Nat) :
    (State.emptiedAt l before s pos).service = s.service := by
  unfold State.emptiedAt; (try dsimp only); (repeat' split) <;> first | (simp; done) | (simp; rfl) | rfl |
      exact foldl_keeps State.service _ (fun _ _ => by simp) _ _
@[simp] theorem State.judgeReport_core (s : State) (l : Nat) (before : Lane) (set : BitVec 8) :
    (s.judgeReport l before set).core = s.core := by
  unfold State.judgeReport; (try dsimp only); (repeat' split) <;> first | (simp; done) | (simp; rfl) | rfl |
      exact foldl_keeps State.core _ (fun _ _ => by simp) _ _
@[simp] theorem State.judgeReport_service (s : State) (l : Nat) (before : Lane) (set : BitVec 8) :
    (s.judgeReport l before set).service = s.service := by
  unfold State.judgeReport; (try dsimp only); (repeat' split) <;> first | (simp; done) | (simp; rfl) | rfl |
      exact foldl_keeps State.service _ (fun _ _ => by simp) _ _
@[simp] theorem State.takeLaneReport_core (s : State) (l : Nat) (set : BitVec 8) :
    (s.takeLaneReport l set).core = s.core := by
  unfold State.takeLaneReport; (try dsimp only); (repeat' split) <;> first | (simp; done) | (simp; rfl) | rfl |
      exact foldl_keeps State.core _ (fun _ _ => by simp) _ _
@[simp] theorem State.takeLaneReport_service (s : State) (l : Nat) (set : BitVec 8) :
    (s.takeLaneReport l set).service = s.service := by
  unfold State.takeLaneReport; (try dsimp only); (repeat' split) <;> first | (simp; done) | (simp; rfl) | rfl |
      exact foldl_keeps State.service _ (fun _ _ => by simp) _ _
@[simp] theorem State.lose_core (s : State) (v : Nat) :
    (s.lose v).core = s.core := by
  unfold State.lose; (try dsimp only); (repeat' split) <;> first | (simp; done) | (simp; rfl) | rfl |
      exact foldl_keeps State.core _ (fun _ _ => by simp) _ _
@[simp] theorem State.lose_service (s : State) (v : Nat) :
    (s.lose v).service = s.service := by
  unfold State.lose; (try dsimp only); (repeat' split) <;> first | (simp; done) | (simp; rfl) | rfl |
      exact foldl_keeps State.service _ (fun _ _ => by simp) _ _
@[simp] theorem State.lose_energy (s : State) (v : Nat) :
    (s.lose v).energy = s.energy := by
  unfold State.lose; (try dsimp only); (repeat' split) <;> first | (simp; done) | (simp; rfl) | rfl |
      exact foldl_keeps State.energy _ (fun _ _ => by simp) _ _
@[simp] theorem State.lose_roster (s : State) (v : Nat) :
    (s.lose v).roster = s.roster := by
  unfold State.lose; (try dsimp only); (repeat' split) <;> first | (simp; done) | (simp; rfl) | rfl |
      exact foldl_keeps State.roster _ (fun _ _ => by simp) _ _
@[simp] theorem State.lose_bus (s : State) (v : Nat) :
    (s.lose v).bus = s.bus := by
  unfold State.lose; (try dsimp only); (repeat' split) <;> first | (simp; done) | (simp; rfl) | rfl |
      exact foldl_keeps State.bus _ (fun _ _ => by simp) _ _
@[simp] theorem State.dropSource_core (s : State) (v : Nat) :
    (s.dropSource v).core = s.core := by
  unfold State.dropSource; (try dsimp only); (repeat' split) <;> first | (simp; done) | (simp; rfl) | rfl |
      exact foldl_keeps State.core _ (fun _ _ => by simp) _ _
@[simp] theorem State.dropSource_fleet (s : State) (v : Nat) :
    (s.dropSource v).fleet = s.fleet := by
  unfold State.dropSource; (try dsimp only); (repeat' split) <;> first | (simp; done) | (simp; rfl) | rfl |
      exact foldl_keeps State.fleet _ (fun _ _ => by simp) _ _
@[simp] theorem State.dropSource_service (s : State) (v : Nat) :
    (s.dropSource v).service = s.service := by
  unfold State.dropSource; (try dsimp only); (repeat' split) <;> first | (simp; done) | (simp; rfl) | rfl |
      exact foldl_keeps State.service _ (fun _ _ => by simp) _ _
@[simp] theorem State.dropSource_energy (s : State) (v : Nat) :
    (s.dropSource v).energy = s.energy := by
  unfold State.dropSource; (try dsimp only); (repeat' split) <;> first | (simp; done) | (simp; rfl) | rfl |
      exact foldl_keeps State.energy _ (fun _ _ => by simp) _ _
@[simp] theorem State.dropSource_roster (s : State) (v : Nat) :
    (s.dropSource v).roster = s.roster := by
  unfold State.dropSource; (try dsimp only); (repeat' split) <;> first | (simp; done) | (simp; rfl) | rfl |
      exact foldl_keeps State.roster _ (fun _ _ => by simp) _ _
@[simp] theorem State.dropSource_bus (s : State) (v : Nat) :
    (s.dropSource v).bus = s.bus := by
  unfold State.dropSource; (try dsimp only); (repeat' split) <;> first | (simp; done) | (simp; rfl) | rfl |
      exact foldl_keeps State.bus _ (fun _ _ => by simp) _ _
@[simp] theorem State.dropSource_faults (s : State) (v : Nat) :
    (s.dropSource v).faults = s.faults := by
  unfold State.dropSource; (try dsimp only); (repeat' split) <;> first | (simp; done) | (simp; rfl) | rfl |
      exact foldl_keeps State.faults _ (fun _ _ => by simp) _ _
@[simp] theorem State.expireArrival_core (s : State) (l v pos : Nat) :
    (s.expireArrival l v pos).core = s.core := by
  unfold State.expireArrival; (try dsimp only); (repeat' split) <;> first | (simp; done) | (simp; rfl) | rfl |
      exact foldl_keeps State.core _ (fun _ _ => by simp) _ _
@[simp] theorem State.expireArrival_service (s : State) (l v pos : Nat) :
    (s.expireArrival l v pos).service = s.service := by
  unfold State.expireArrival; (try dsimp only); (repeat' split) <;> first | (simp; done) | (simp; rfl) | rfl |
      exact foldl_keeps State.service _ (fun _ _ => by simp) _ _
@[simp] theorem State.expireArrival_energy (s : State) (l v pos : Nat) :
    (s.expireArrival l v pos).energy = s.energy := by
  unfold State.expireArrival; (try dsimp only); (repeat' split) <;> first | (simp; done) | (simp; rfl) | rfl |
      exact foldl_keeps State.energy _ (fun _ _ => by simp) _ _
@[simp] theorem State.expireArrival_roster (s : State) (l v pos : Nat) :
    (s.expireArrival l v pos).roster = s.roster := by
  unfold State.expireArrival; (try dsimp only); (repeat' split) <;> first | (simp; done) | (simp; rfl) | rfl |
      exact foldl_keeps State.roster _ (fun _ _ => by simp) _ _
@[simp] theorem State.expireArrival_bus (s : State) (l v pos : Nat) :
    (s.expireArrival l v pos).bus = s.bus := by
  unfold State.expireArrival; (try dsimp only); (repeat' split) <;> first | (simp; done) | (simp; rfl) | rfl |
      exact foldl_keeps State.bus _ (fun _ _ => by simp) _ _
@[simp] theorem State.expireReservation_core (s : State) (v : Nat) :
    (s.expireReservation v).core = s.core := by
  unfold State.expireReservation; (try dsimp only); (repeat' split) <;> first | (simp; done) | (simp; rfl) | rfl |
      exact foldl_keeps State.core _ (fun _ _ => by simp) _ _
@[simp] theorem State.expireReservation_service (s : State) (v : Nat) :
    (s.expireReservation v).service = s.service := by
  unfold State.expireReservation; (try dsimp only); (repeat' split) <;> first | (simp; done) | (simp; rfl) | rfl |
      exact foldl_keeps State.service _ (fun _ _ => by simp) _ _
@[simp] theorem State.expireReservation_energy (s : State) (v : Nat) :
    (s.expireReservation v).energy = s.energy := by
  unfold State.expireReservation; (try dsimp only); (repeat' split) <;> first | (simp; done) | (simp; rfl) | rfl |
      exact foldl_keeps State.energy _ (fun _ _ => by simp) _ _
@[simp] theorem State.expireReservation_roster (s : State) (v : Nat) :
    (s.expireReservation v).roster = s.roster := by
  unfold State.expireReservation; (try dsimp only); (repeat' split) <;> first | (simp; done) | (simp; rfl) | rfl |
      exact foldl_keeps State.roster _ (fun _ _ => by simp) _ _
@[simp] theorem State.expireReservation_bus (s : State) (v : Nat) :
    (s.expireReservation v).bus = s.bus := by
  unfold State.expireReservation; (try dsimp only); (repeat' split) <;> first | (simp; done) | (simp; rfl) | rfl |
      exact foldl_keeps State.bus _ (fun _ _ => by simp) _ _
@[simp] theorem State.expireLeaving_core (s : State) (l v pos : Nat) :
    (s.expireLeaving l v pos).core = s.core := by
  unfold State.expireLeaving; (try dsimp only); (repeat' split) <;> first | (simp; done) | (simp; rfl) | rfl |
      exact foldl_keeps State.core _ (fun _ _ => by simp) _ _
@[simp] theorem State.expireLeaving_service (s : State) (l v pos : Nat) :
    (s.expireLeaving l v pos).service = s.service := by
  unfold State.expireLeaving; (try dsimp only); (repeat' split) <;> first | (simp; done) | (simp; rfl) | rfl |
      exact foldl_keeps State.service _ (fun _ _ => by simp) _ _
@[simp] theorem State.expireLeaving_energy (s : State) (l v pos : Nat) :
    (s.expireLeaving l v pos).energy = s.energy := by
  unfold State.expireLeaving; (try dsimp only); (repeat' split) <;> first | (simp; done) | (simp; rfl) | rfl |
      exact foldl_keeps State.energy _ (fun _ _ => by simp) _ _
@[simp] theorem State.expireLeaving_roster (s : State) (l v pos : Nat) :
    (s.expireLeaving l v pos).roster = s.roster := by
  unfold State.expireLeaving; (try dsimp only); (repeat' split) <;> first | (simp; done) | (simp; rfl) | rfl |
      exact foldl_keeps State.roster _ (fun _ _ => by simp) _ _
@[simp] theorem State.expireLeaving_bus (s : State) (l v pos : Nat) :
    (s.expireLeaving l v pos).bus = s.bus := by
  unfold State.expireLeaving; (try dsimp only); (repeat' split) <;> first | (simp; done) | (simp; rfl) | rfl |
      exact foldl_keeps State.bus _ (fun _ _ => by simp) _ _
@[simp] theorem State.expireMovement_core (s : State) (m : Movement) :
    (s.expireMovement m).core = s.core := by
  unfold State.expireMovement; (try dsimp only); (repeat' split) <;> first | (simp; done) | (simp; rfl) | rfl |
      exact foldl_keeps State.core _ (fun _ _ => by simp) _ _
@[simp] theorem State.expireMovement_service (s : State) (m : Movement) :
    (s.expireMovement m).service = s.service := by
  unfold State.expireMovement; (try dsimp only); (repeat' split) <;> first | (simp; done) | (simp; rfl) | rfl |
      exact foldl_keeps State.service _ (fun _ _ => by simp) _ _
@[simp] theorem State.expireMovement_energy (s : State) (m : Movement) :
    (s.expireMovement m).energy = s.energy := by
  unfold State.expireMovement; (try dsimp only); (repeat' split) <;> first | (simp; done) | (simp; rfl) | rfl |
      exact foldl_keeps State.energy _ (fun _ _ => by simp) _ _
@[simp] theorem State.expireMovement_roster (s : State) (m : Movement) :
    (s.expireMovement m).roster = s.roster := by
  unfold State.expireMovement; (try dsimp only); (repeat' split) <;> first | (simp; done) | (simp; rfl) | rfl |
      exact foldl_keeps State.roster _ (fun _ _ => by simp) _ _
@[simp] theorem State.expireMovement_bus (s : State) (m : Movement) :
    (s.expireMovement m).bus = s.bus := by
  unfold State.expireMovement; (try dsimp only); (repeat' split) <;> first | (simp; done) | (simp; rfl) | rfl |
      exact foldl_keeps State.bus _ (fun _ _ => by simp) _ _
@[simp] theorem State.abandon_core (s : State) (vs : List Nat) :
    (s.abandon vs).core = s.core := by
  unfold State.abandon; (try dsimp only); (repeat' split) <;> first | (simp; done) | (simp; rfl) | rfl |
      exact foldl_keeps State.core _ (fun _ _ => by simp) _ _
@[simp] theorem State.abandon_service (s : State) (vs : List Nat) :
    (s.abandon vs).service = s.service := by
  unfold State.abandon; (try dsimp only); (repeat' split) <;> first | (simp; done) | (simp; rfl) | rfl |
      exact foldl_keeps State.service _ (fun _ _ => by simp) _ _
@[simp] theorem State.abandon_yard (s : State) (vs : List Nat) :
    (s.abandon vs).yard = s.yard := by
  unfold State.abandon; (try dsimp only); (repeat' split) <;> first | (simp; done) | (simp; rfl) | rfl |
      exact foldl_keeps State.yard _ (fun _ _ => by simp) _ _
@[simp] theorem State.abandon_energy (s : State) (vs : List Nat) :
    (s.abandon vs).energy = s.energy := by
  unfold State.abandon; (try dsimp only); (repeat' split) <;> first | (simp; done) | (simp; rfl) | rfl |
      exact foldl_keeps State.energy _ (fun _ _ => by simp) _ _
@[simp] theorem State.abandon_roster (s : State) (vs : List Nat) :
    (s.abandon vs).roster = s.roster := by
  unfold State.abandon; (try dsimp only); (repeat' split) <;> first | (simp; done) | (simp; rfl) | rfl |
      exact foldl_keeps State.roster _ (fun _ _ => by simp) _ _
@[simp] theorem State.abandon_bus (s : State) (vs : List Nat) :
    (s.abandon vs).bus = s.bus := by
  unfold State.abandon; (try dsimp only); (repeat' split) <;> first | (simp; done) | (simp; rfl) | rfl |
      exact foldl_keeps State.bus _ (fun _ _ => by simp) _ _
@[simp] theorem State.abandon_notices (s : State) (vs : List Nat) :
    (s.abandon vs).notices = s.notices := by
  unfold State.abandon; (try dsimp only); (repeat' split) <;> first | (simp; done) | (simp; rfl) | rfl |
      exact foldl_keeps State.notices _ (fun _ _ => by simp) _ _
@[simp] theorem State.abandon_faults (s : State) (vs : List Nat) :
    (s.abandon vs).faults = s.faults := by
  unfold State.abandon; (try dsimp only); (repeat' split) <;> first | (simp; done) | (simp; rfl) | rfl |
      exact foldl_keeps State.faults _ (fun _ _ => by simp) _ _
@[simp] theorem State.abandonLane_core (s : State) (l : Nat) :
    (s.abandonLane l).core = s.core := by
  unfold State.abandonLane; (try dsimp only); (repeat' split) <;> first | (simp; done) | (simp; rfl) | rfl |
      exact foldl_keeps State.core _ (fun _ _ => by simp) _ _
@[simp] theorem State.abandonLane_fleet (s : State) (l : Nat) :
    (s.abandonLane l).fleet = s.fleet := by
  unfold State.abandonLane; (try dsimp only); (repeat' split) <;> first | (simp; done) | (simp; rfl) | rfl |
      exact foldl_keeps State.fleet _ (fun _ _ => by simp) _ _
@[simp] theorem State.abandonLane_service (s : State) (l : Nat) :
    (s.abandonLane l).service = s.service := by
  unfold State.abandonLane; (try dsimp only); (repeat' split) <;> first | (simp; done) | (simp; rfl) | rfl |
      exact foldl_keeps State.service _ (fun _ _ => by simp) _ _
@[simp] theorem State.abandonLane_energy (s : State) (l : Nat) :
    (s.abandonLane l).energy = s.energy := by
  unfold State.abandonLane; (try dsimp only); (repeat' split) <;> first | (simp; done) | (simp; rfl) | rfl |
      exact foldl_keeps State.energy _ (fun _ _ => by simp) _ _
@[simp] theorem State.abandonLane_roster (s : State) (l : Nat) :
    (s.abandonLane l).roster = s.roster := by
  unfold State.abandonLane; (try dsimp only); (repeat' split) <;> first | (simp; done) | (simp; rfl) | rfl |
      exact foldl_keeps State.roster _ (fun _ _ => by simp) _ _
@[simp] theorem State.abandonLane_bus (s : State) (l : Nat) :
    (s.abandonLane l).bus = s.bus := by
  unfold State.abandonLane; (try dsimp only); (repeat' split) <;> first | (simp; done) | (simp; rfl) | rfl |
      exact foldl_keeps State.bus _ (fun _ _ => by simp) _ _
@[simp] theorem State.abandonLane_faults (s : State) (l : Nat) :
    (s.abandonLane l).faults = s.faults := by
  unfold State.abandonLane; (try dsimp only); (repeat' split) <;> first | (simp; done) | (simp; rfl) | rfl |
      exact foldl_keeps State.faults _ (fun _ _ => by simp) _ _
@[simp] theorem State.abandonMovements_core (s : State) :
    (s.abandonMovements).core = s.core := by
  unfold State.abandonMovements; (try dsimp only); (repeat' split) <;> first | (simp; done) | (simp; rfl) | rfl |
      exact foldl_keeps State.core _ (fun _ _ => by simp) _ _
@[simp] theorem State.abandonMovements_service (s : State) :
    (s.abandonMovements).service = s.service := by
  unfold State.abandonMovements; (try dsimp only); (repeat' split) <;> first | (simp; done) | (simp; rfl) | rfl |
      exact foldl_keeps State.service _ (fun _ _ => by simp) _ _
@[simp] theorem State.abandonMovements_energy (s : State) :
    (s.abandonMovements).energy = s.energy := by
  unfold State.abandonMovements; (try dsimp only); (repeat' split) <;> first | (simp; done) | (simp; rfl) | rfl |
      exact foldl_keeps State.energy _ (fun _ _ => by simp) _ _
@[simp] theorem State.abandonMovements_roster (s : State) :
    (s.abandonMovements).roster = s.roster := by
  unfold State.abandonMovements; (try dsimp only); (repeat' split) <;> first | (simp; done) | (simp; rfl) | rfl |
      exact foldl_keeps State.roster _ (fun _ _ => by simp) _ _
@[simp] theorem State.abandonMovements_bus (s : State) :
    (s.abandonMovements).bus = s.bus := by
  unfold State.abandonMovements; (try dsimp only); (repeat' split) <;> first | (simp; done) | (simp; rfl) | rfl |
      exact foldl_keeps State.bus _ (fun _ _ => by simp) _ _
@[simp] theorem State.abandonMovements_faults (s : State) :
    (s.abandonMovements).faults = s.faults := by
  unfold State.abandonMovements; (try dsimp only); (repeat' split) <;> first | (simp; done) | (simp; rfl) | rfl |
      exact foldl_keeps State.faults _ (fun _ _ => by simp) _ _
@[simp] theorem State.releaseYard_core (s : State) (v : Nat) (r : Vehicle) :
    (s.releaseYard v r).core = s.core := by
  unfold State.releaseYard; (try dsimp only); (repeat' split) <;> first | (simp; done) | (simp; rfl) | rfl |
      exact foldl_keeps State.core _ (fun _ _ => by simp) _ _
@[simp] theorem State.releaseYard_fleet (s : State) (v : Nat) (r : Vehicle) :
    (s.releaseYard v r).fleet = s.fleet := by
  unfold State.releaseYard; (try dsimp only); (repeat' split) <;> first | (simp; done) | (simp; rfl) | rfl |
      exact foldl_keeps State.fleet _ (fun _ _ => by simp) _ _
@[simp] theorem State.releaseYard_service (s : State) (v : Nat) (r : Vehicle) :
    (s.releaseYard v r).service = s.service := by
  unfold State.releaseYard; (try dsimp only); (repeat' split) <;> first | (simp; done) | (simp; rfl) | rfl |
      exact foldl_keeps State.service _ (fun _ _ => by simp) _ _
@[simp] theorem State.releaseYard_roster (s : State) (v : Nat) (r : Vehicle) :
    (s.releaseYard v r).roster = s.roster := by
  unfold State.releaseYard; (try dsimp only); (repeat' split) <;> first | (simp; done) | (simp; rfl) | rfl |
      exact foldl_keeps State.roster _ (fun _ _ => by simp) _ _

end Sys2Proof.Machine
end

