-- ==== Sys2Proof/Laws/Order.lean ====
section
/-! SUPPORT. What a recount of the lanes can do (R17, R68): the count it leaves, the notice of a rise, and the lanes it leaves
alone. -/

namespace Sys2Proof.Machine

/-- R68: the count by recursion is the number of neighbouring pairs out of order. -/
theorem inversionsOf_eq_countP (key : Nat → Nat) :
    ∀ es : List Entry, inversionsOf key es =
      (es.zip es.tail).countP (fun x => decide (key x.2.vehicle < key x.1.vehicle))
  | [] => rfl
  | [_] => rfl
  | a :: b :: es => by
    have ih := inversionsOf_eq_countP key (b :: es)
    simp only [inversionsOf, ih, List.tail_cons, List.zip_cons_cons, List.countP_cons, decide_eq_true_eq]
    omega

/-- The pairs of a lane out of order, by the recursion that the model counts with. -/
theorem State.inversionPairs_eq (s : State) (l : Nat) :
    s.inversionPairs l = inversionsOf (fun v => (s.vehicle v).key) (s.lane l).entries := by
  rw [inversionsOf_eq_countP]; rfl

theorem vehicle_of_fleet {s t : State} (h : t.fleet = s.fleet) (v : Nat) : t.vehicle v = s.vehicle v := by
  simp [State.vehicle, State.vehicle?, h]
theorem lane_of_yard {s t : State} (h : t.yard = s.yard) (l : Nat) : t.lane l = s.lane l := by
  simp [State.lane, h]
theorem inversionPairs_congr {s t : State} {l : Nat} (hf : t.fleet = s.fleet)
    (he : (t.lane l).entries = (s.lane l).entries) : t.inversionPairs l = s.inversionPairs l := by
  simp [State.inversionPairs_eq, he, vehicle_of_fleet hf]

/-- R68: a recount of a lane sets its count and nothing else of it, and no other lane's. -/
theorem State.recount_lane (s : State) (l k : Nat) :
    (s.recount l).lane k = if k = l then { s.lane l with inversions := s.inversionPairs l } else s.lane k := by
  have h : (s.recount l).yard = (s.setLane l { s.lane l with inversions := s.inversionPairs l }).yard := by
    rw [s.inversionPairs_eq]; unfold State.recount; dsimp only; split <;> rfl
  rw [lane_of_yard h]
  split
  · next hk => rw [hk, State.lane_setLane_same]
  · next hk => exact State.lane_setLane_ne _ _ hk
/-- R68: a recount raises BLOCK-CREATED where the count rises from 0, and no other notice. -/
theorem State.recount_pending (s : State) (l : Nat) :
    (s.recount l).notices.pending =
      if (s.lane l).inversions = 0 ∧ 0 < s.inversionPairs l then s.notices.pending ||| (1#16 <<< 2) else s.notices.pending := by
  rw [s.inversionPairs_eq]; unfold State.recount; dsimp only; split <;> rfl

/-- R68: a recounted lane. -/
theorem State.recount_recounted (s : State) (l : Nat) : s.recounted (s.recount l) l := by
  have hl := s.recount_lane l l
  rw [if_pos rfl] at hl
  refine ⟨?_, fun h0 h1 => ?_⟩
  · rw [inversionPairs_congr (s.recount_fleet l) (by rw [hl]), hl]
  · rw [hl] at h1
    rw [State.recount_pending, if_pos ⟨h0, h1⟩]
    exact fun h => absurd (congrArg (fun x => x.getLsbD 2) h) (by simp)

/-- R17: a lane recounted where its count comes out changed is as one recounted, but for the notice that a count which has not
changed cannot raise. -/
theorem State.recountChanged_lane (s : State) (l k : Nat) :
    (s.recountChanged l).lane k = if k = l then { s.lane l with inversions := s.inversionPairs l } else s.lane k := by
  unfold State.recountChanged
  dsimp only
  split
  · next h =>
    rw [s.inversionPairs_eq, h]
    split
    · next hk => rw [hk]
    · rfl
  · exact s.recount_lane l k
/-- R17, R68: such a lane is recounted. -/
theorem State.recountChanged_recounted (s : State) (l : Nat) : s.recounted (s.recountChanged l) l := by
  unfold State.recountChanged
  dsimp only
  split
  · next h => exact ⟨by rw [s.inversionPairs_eq, h], fun h0 h1 => absurd h0 (by omega)⟩
  · exact s.recount_recounted l
/-- R159: a recount lowers no notice. -/
theorem State.recountChanged_keeps_blocks (s : State) (l : Nat) (h : s.notices.pending &&& (1#16 <<< 2) ≠ 0#16) :
    (s.recountChanged l).notices.pending &&& (1#16 <<< 2) ≠ 0#16 := by
  unfold State.recountChanged
  dsimp only
  split
  · exact h
  · rw [State.recount_pending]
    split
    · exact fun h => absurd (congrArg (fun x => x.getLsbD 2) h) (by simp)
    · exact h

/-- R17, R68: lanes recounted one after the other: the count, the rest of each lane, and the notice. -/
theorem recountChanged_foldl (ls : List Nat) (s : State) (l : Nat) :
    let t := ls.foldl State.recountChanged s
    t.fleet = s.fleet ∧
    t.lane l = (if l ∈ ls then { s.lane l with inversions := s.inversionPairs l } else s.lane l) ∧
    (l ∈ ls → (s.lane l).inversions = 0 → 0 < s.inversionPairs l → t.notices.pending &&& (1#16 <<< 2) ≠ 0#16) ∧
    (s.notices.pending &&& (1#16 <<< 2) ≠ 0#16 → t.notices.pending &&& (1#16 <<< 2) ≠ 0#16) := by
  induction ls generalizing s with
  | nil => simp
  | cons a ls ih =>
    obtain ⟨hf, hl, hn, hk⟩ := ih (s.recountChanged a)
    have hfa := s.recountChanged_fleet a
    have ha := s.recountChanged_lane a l
    have hp : (s.recountChanged a).inversionPairs l = s.inversionPairs l :=
      inversionPairs_congr hfa (by rw [ha]; split <;> simp_all)
    have hkeep := s.recountChanged_keeps_blocks a
    refine ⟨hf.trans hfa, ?_, fun hm h0 h1 => ?_, fun h => hk (hkeep h)⟩
    · simp only [List.foldl_cons, hl, hp, ha, List.mem_cons]
      by_cases hla : l = a
      · subst hla; simp
      · simp [hla]
    · by_cases hla : l = a
      · subst hla
        have := s.recountChanged_recounted l
        exact hk (this.2 h0 (by rw [this.1, hp]; exact h1))
      · refine hn ((List.mem_cons.mp hm).resolve_left hla) ?_ (by rw [hp]; exact h1)
        rw [ha, if_neg hla]; exact h0

theorem mem_laneNums (s : State) (l : Nat) : l ∈ s.laneNums ↔ 1 ≤ l ∧ l ≤ s.geo.numLanes := by
  simp only [State.laneNums, upTo, List.mem_map, List.mem_range]
  constructor
  · rintro ⟨i, hi, rfl⟩; omega
  · rintro ⟨h1, h2⟩; exact ⟨l - 1, by omega, by omega⟩
/-- R17, R68: the recount of every lane. -/
theorem State.recountAll_recountedAll (s : State) : s.recountedAll s.recountAll := by
  intro l h1 h2
  obtain ⟨hf, hl, hn, -⟩ := recountChanged_foldl s.laneNums s l
  have hm := (mem_laneNums s l).mpr ⟨h1, h2⟩
  rw [if_pos hm] at hl
  refine ⟨?_, fun h0 hpos => hn hm h0 ?_⟩
  · exact (congrArg Lane.inversions hl).trans (inversionPairs_congr hf (by rw [hl])).symm
  · rw [State.recountAll, hl] at hpos; exact hpos
/-- R17: the recount of every lane changes the counts of the configured lanes and nothing else of a lane. -/
theorem State.recountAll_lane (s : State) (l : Nat) :
    s.recountAll.lane l =
      if 1 ≤ l ∧ l ≤ s.geo.numLanes then { s.lane l with inversions := s.inversionPairs l } else s.lane l := by
  have h := (recountChanged_foldl s.laneNums s l).2.1
  simp only [mem_laneNums] at h
  exact h

/-- R52: entries put in a lane leave its count, until the recount. -/
theorem State.setEntries_inversions (s : State) (l : Nat) (es : List Entry) :
    ((s.setEntries l es).lane l).inversions = (s.lane l).inversions := by
  simp [State.setEntries, State.updLane]
/-- R52, R68: a lane is recounted as an entry is added. -/
theorem State.addEntry_recounted (s : State) (l : Nat) (e : Entry) : s.recounted (s.addEntry l e) l := by
  obtain ⟨h1, h2⟩ := State.recount_recounted (s.setEntries l (insertEntry e (s.lane l).entries)) l
  exact ⟨h1, fun h0 => h2 (by rw [State.setEntries_inversions]; exact h0)⟩
/-- R52, R68: a lane is recounted as entries are removed. -/
theorem State.dropEntries_recounted (s : State) (l : Nat) (p : Entry → Bool) : s.recounted (s.dropEntries l p) l := by
  obtain ⟨h1, h2⟩ := State.recount_recounted (s.setEntries l ((s.lane l).entries.filter (fun e => !p e))) l
  exact ⟨h1, fun h0 => h2 (by rw [State.setEntries_inversions]; exact h0)⟩

end Sys2Proof.Machine
end

