-- ==== Sys2Proof/Laws/Service.lean ====
section
/-! SUPPORT. What each operation of the Service Line Controller leaves alone: one lemma per view. -/

namespace Sys2Proof.Machine

@[simp] theorem State.orderGate_core (g : Nat) : ∀ (q : List Waiting) (s : State) (n : Nat),
    (s.orderGate g q n).core = s.core
  | [], _, _ => rfl
  | _ :: ws, s, n => by
    unfold State.orderGate; rw [State.orderGate_core g ws]; simp
@[simp] theorem State.orderGate_yard (g : Nat) : ∀ (q : List Waiting) (s : State) (n : Nat),
    (s.orderGate g q n).yard = s.yard
  | [], _, _ => rfl
  | _ :: ws, s, n => by
    unfold State.orderGate; rw [State.orderGate_yard g ws]; simp
@[simp] theorem State.orderGate_energy (g : Nat) : ∀ (q : List Waiting) (s : State) (n : Nat),
    (s.orderGate g q n).energy = s.energy
  | [], _, _ => rfl
  | _ :: ws, s, n => by
    unfold State.orderGate; rw [State.orderGate_energy g ws]; simp
@[simp] theorem State.orderGate_roster (g : Nat) : ∀ (q : List Waiting) (s : State) (n : Nat),
    (s.orderGate g q n).roster = s.roster
  | [], _, _ => rfl
  | _ :: ws, s, n => by
    unfold State.orderGate; rw [State.orderGate_roster g ws]; simp
@[simp] theorem State.orderGate_bus (g : Nat) : ∀ (q : List Waiting) (s : State) (n : Nat),
    (s.orderGate g q n).bus = s.bus
  | [], _, _ => rfl
  | _ :: ws, s, n => by
    unfold State.orderGate; rw [State.orderGate_bus g ws]; simp
@[simp] theorem State.orderGate_notices (g : Nat) : ∀ (q : List Waiting) (s : State) (n : Nat),
    (s.orderGate g q n).notices = s.notices
  | [], _, _ => rfl
  | _ :: ws, s, n => by
    unfold State.orderGate; rw [State.orderGate_notices g ws]; simp
@[simp] theorem State.orderGate_faults (g : Nat) : ∀ (q : List Waiting) (s : State) (n : Nat),
    (s.orderGate g q n).faults = s.faults
  | [], _, _ => rfl
  | _ :: ws, s, n => by
    unfold State.orderGate; rw [State.orderGate_faults g ws]; simp
@[simp] theorem State.putGateQueue_core (s : State) (g : Nat) (q : List Waiting) :
    (s.putGateQueue g q).core = s.core := by
  unfold State.putGateQueue; (try dsimp only); (repeat' split) <;> first | (simp; done) | (simp; rfl) | rfl |
      exact foldl_keeps State.core _ (fun _ _ => by simp) _ _
@[simp] theorem State.putGateQueue_yard (s : State) (g : Nat) (q : List Waiting) :
    (s.putGateQueue g q).yard = s.yard := by
  unfold State.putGateQueue; (try dsimp only); (repeat' split) <;> first | (simp; done) | (simp; rfl) | rfl |
      exact foldl_keeps State.yard _ (fun _ _ => by simp) _ _
@[simp] theorem State.putGateQueue_energy (s : State) (g : Nat) (q : List Waiting) :
    (s.putGateQueue g q).energy = s.energy := by
  unfold State.putGateQueue; (try dsimp only); (repeat' split) <;> first | (simp; done) | (simp; rfl) | rfl |
      exact foldl_keeps State.energy _ (fun _ _ => by simp) _ _
@[simp] theorem State.putGateQueue_roster (s : State) (g : Nat) (q : List Waiting) :
    (s.putGateQueue g q).roster = s.roster := by
  unfold State.putGateQueue; (try dsimp only); (repeat' split) <;> first | (simp; done) | (simp; rfl) | rfl |
      exact foldl_keeps State.roster _ (fun _ _ => by simp) _ _
@[simp] theorem State.putGateQueue_bus (s : State) (g : Nat) (q : List Waiting) :
    (s.putGateQueue g q).bus = s.bus := by
  unfold State.putGateQueue; (try dsimp only); (repeat' split) <;> first | (simp; done) | (simp; rfl) | rfl |
      exact foldl_keeps State.bus _ (fun _ _ => by simp) _ _
@[simp] theorem State.putGateQueue_notices (s : State) (g : Nat) (q : List Waiting) :
    (s.putGateQueue g q).notices = s.notices := by
  unfold State.putGateQueue; (try dsimp only); (repeat' split) <;> first | (simp; done) | (simp; rfl) | rfl |
      exact foldl_keeps State.notices _ (fun _ _ => by simp) _ _
@[simp] theorem State.putGateQueue_faults (s : State) (g : Nat) (q : List Waiting) :
    (s.putGateQueue g q).faults = s.faults := by
  unfold State.putGateQueue; (try dsimp only); (repeat' split) <;> first | (simp; done) | (simp; rfl) | rfl |
      exact foldl_keeps State.faults _ (fun _ _ => by simp) _ _
@[simp] theorem State.sendToBay_core (s : State) (b v : Nat) :
    (s.sendToBay b v).core = s.core := by
  unfold State.sendToBay; (try dsimp only); (repeat' split) <;> first | (simp; done) | (simp; rfl) | rfl |
      exact foldl_keeps State.core _ (fun _ _ => by simp) _ _
@[simp] theorem State.sendToBay_yard (s : State) (b v : Nat) :
    (s.sendToBay b v).yard = s.yard := by
  unfold State.sendToBay; (try dsimp only); (repeat' split) <;> first | (simp; done) | (simp; rfl) | rfl |
      exact foldl_keeps State.yard _ (fun _ _ => by simp) _ _
@[simp] theorem State.sendToBay_roster (s : State) (b v : Nat) :
    (s.sendToBay b v).roster = s.roster := by
  unfold State.sendToBay; (try dsimp only); (repeat' split) <;> first | (simp; done) | (simp; rfl) | rfl |
      exact foldl_keeps State.roster _ (fun _ _ => by simp) _ _
theorem State.admitFrom_core {s s' : State} {g p v : Nat} (h : s.admitFrom g p = some (v, s')) : s'.core = s.core := by
  unfold State.admitFrom at h
  split at h
  · cases h
  · cases h; simp
theorem State.admitFrom_yard {s s' : State} {g p v : Nat} (h : s.admitFrom g p = some (v, s')) : s'.yard = s.yard := by
  unfold State.admitFrom at h
  split at h
  · cases h
  · cases h; simp
theorem State.admitFrom_roster {s s' : State} {g p v : Nat} (h : s.admitFrom g p = some (v, s')) : s'.roster = s.roster := by
  unfold State.admitFrom at h
  split at h
  · cases h
  · cases h; simp
@[simp] theorem State.admitUpTo_core : ∀ (n : Nat) (s : State), (State.admitUpTo n s).core = s.core
  | 0, _ => rfl
  | n + 1, s => by
    unfold State.admitUpTo
    split
    · split
      · split
        · rfl
        · next h =>
          split
          · exact State.admitFrom_core h
          · rw [State.admitUpTo_core n]; simpa using State.admitFrom_core h
      · rfl
    · rfl
@[simp] theorem State.admitUpTo_yard : ∀ (n : Nat) (s : State), (State.admitUpTo n s).yard = s.yard
  | 0, _ => rfl
  | n + 1, s => by
    unfold State.admitUpTo
    split
    · split
      · split
        · rfl
        · next h =>
          split
          · exact State.admitFrom_yard h
          · rw [State.admitUpTo_yard n]; simpa using State.admitFrom_yard h
      · rfl
    · rfl
@[simp] theorem State.admitUpTo_roster : ∀ (n : Nat) (s : State), (State.admitUpTo n s).roster = s.roster
  | 0, _ => rfl
  | n + 1, s => by
    unfold State.admitUpTo
    split
    · split
      · split
        · rfl
        · next h =>
          split
          · exact State.admitFrom_roster h
          · rw [State.admitUpTo_roster n]; simpa using State.admitFrom_roster h
      · rfl
    · rfl
@[simp] theorem State.admit_core (s : State) :
    (s.fillPad).core = s.core := by
  unfold State.fillPad; (try dsimp only); (repeat' split) <;> first | (simp; done) | (simp; rfl) | rfl |
      exact foldl_keeps State.core _ (fun _ _ => by simp) _ _
@[simp] theorem State.admit_yard (s : State) :
    (s.fillPad).yard = s.yard := by
  unfold State.fillPad; (try dsimp only); (repeat' split) <;> first | (simp; done) | (simp; rfl) | rfl |
      exact foldl_keeps State.yard _ (fun _ _ => by simp) _ _
@[simp] theorem State.admit_roster (s : State) :
    (s.fillPad).roster = s.roster := by
  unfold State.fillPad; (try dsimp only); (repeat' split) <;> first | (simp; done) | (simp; rfl) | rfl |
      exact foldl_keeps State.roster _ (fun _ _ => by simp) _ _
@[simp] theorem State.countTurn_core (winner : Nat) (s : State) (w : Waiting) :
    (State.countTurn winner s w).core = s.core := by
  unfold State.countTurn; (try dsimp only); (repeat' split) <;> first | (simp; done) | (simp; rfl) | rfl |
      exact foldl_keeps State.core _ (fun _ _ => by simp) _ _
@[simp] theorem State.countTurn_yard (winner : Nat) (s : State) (w : Waiting) :
    (State.countTurn winner s w).yard = s.yard := by
  unfold State.countTurn; (try dsimp only); (repeat' split) <;> first | (simp; done) | (simp; rfl) | rfl |
      exact foldl_keeps State.yard _ (fun _ _ => by simp) _ _
@[simp] theorem State.countTurn_energy (winner : Nat) (s : State) (w : Waiting) :
    (State.countTurn winner s w).energy = s.energy := by
  unfold State.countTurn; (try dsimp only); (repeat' split) <;> first | (simp; done) | (simp; rfl) | rfl |
      exact foldl_keeps State.energy _ (fun _ _ => by simp) _ _
@[simp] theorem State.countTurn_roster (winner : Nat) (s : State) (w : Waiting) :
    (State.countTurn winner s w).roster = s.roster := by
  unfold State.countTurn; (try dsimp only); (repeat' split) <;> first | (simp; done) | (simp; rfl) | rfl |
      exact foldl_keeps State.roster _ (fun _ _ => by simp) _ _
@[simp] theorem State.countTurn_bus (winner : Nat) (s : State) (w : Waiting) :
    (State.countTurn winner s w).bus = s.bus := by
  unfold State.countTurn; (try dsimp only); (repeat' split) <;> first | (simp; done) | (simp; rfl) | rfl |
      exact foldl_keeps State.bus _ (fun _ _ => by simp) _ _
@[simp] theorem State.countTurn_notices (winner : Nat) (s : State) (w : Waiting) :
    (State.countTurn winner s w).notices = s.notices := by
  unfold State.countTurn; (try dsimp only); (repeat' split) <;> first | (simp; done) | (simp; rfl) | rfl |
      exact foldl_keeps State.notices _ (fun _ _ => by simp) _ _
@[simp] theorem State.countTurn_faults (winner : Nat) (s : State) (w : Waiting) :
    (State.countTurn winner s w).faults = s.faults := by
  unfold State.countTurn; (try dsimp only); (repeat' split) <;> first | (simp; done) | (simp; rfl) | rfl |
      exact foldl_keeps State.faults _ (fun _ _ => by simp) _ _
theorem State.takeTurn_core {s s' : State} {b : Nat} (h : s.takeTurn b = some s') : s'.core = s.core := by
  unfold State.takeTurn at h
  simp only [Option.map_eq_some_iff] at h
  obtain ⟨w, _, rfl⟩ := h
  simp
theorem State.takeTurn_yard {s s' : State} {b : Nat} (h : s.takeTurn b = some s') : s'.yard = s.yard := by
  unfold State.takeTurn at h
  simp only [Option.map_eq_some_iff] at h
  obtain ⟨w, _, rfl⟩ := h
  simp
theorem State.takeTurn_roster {s s' : State} {b : Nat} (h : s.takeTurn b = some s') : s'.roster = s.roster := by
  unfold State.takeTurn at h
  simp only [Option.map_eq_some_iff] at h
  obtain ⟨w, _, rfl⟩ := h
  simp
@[simp] theorem State.offerBay_core (s : State) (b : Nat) :
    (s.offerBay b).core = s.core := by
  unfold State.offerBay; split
  · split
    · next h => simp [State.takeTurn_core h]
    · rfl
  · rfl
@[simp] theorem State.offerBay_yard (s : State) (b : Nat) :
    (s.offerBay b).yard = s.yard := by
  unfold State.offerBay; split
  · split
    · next h => simp [State.takeTurn_yard h]
    · rfl
  · rfl
@[simp] theorem State.offerBay_roster (s : State) (b : Nat) :
    (s.offerBay b).roster = s.roster := by
  unfold State.offerBay; split
  · split
    · next h => simp [State.takeTurn_roster h]
    · rfl
  · rfl
@[simp] theorem State.sweepBay_core (s : State) (b : Nat) :
    (s.sweepBay b).core = s.core := by
  unfold State.sweepBay; split
  · cases h : s.takeTurn b with
    | none => rfl
    | some s' => exact State.takeTurn_core h
  · rfl
@[simp] theorem State.sweepBay_yard (s : State) (b : Nat) :
    (s.sweepBay b).yard = s.yard := by
  unfold State.sweepBay; split
  · cases h : s.takeTurn b with
    | none => rfl
    | some s' => exact State.takeTurn_yard h
  · rfl
@[simp] theorem State.sweepBay_roster (s : State) (b : Nat) :
    (s.sweepBay b).roster = s.roster := by
  unfold State.sweepBay; split
  · cases h : s.takeTurn b with
    | none => rfl
    | some s' => exact State.takeTurn_roster h
  · rfl
@[simp] theorem State.sweep_core (s : State) :
    (s.sweep).core = s.core := by
  unfold State.sweep; (try dsimp only); (repeat' split) <;> first | (simp; done) | (simp; rfl) | rfl |
      exact foldl_keeps State.core _ (fun _ _ => by simp) _ _
@[simp] theorem State.sweep_yard (s : State) :
    (s.sweep).yard = s.yard := by
  unfold State.sweep; (try dsimp only); (repeat' split) <;> first | (simp; done) | (simp; rfl) | rfl |
      exact foldl_keeps State.yard _ (fun _ _ => by simp) _ _
@[simp] theorem State.sweep_roster (s : State) :
    (s.sweep).roster = s.roster := by
  unfold State.sweep; (try dsimp only); (repeat' split) <;> first | (simp; done) | (simp; rfl) | rfl |
      exact foldl_keeps State.roster _ (fun _ _ => by simp) _ _
@[simp] theorem State.freeBay_core (s : State) (b : Nat) :
    (s.freeBay b).core = s.core := by
  unfold State.freeBay; (try dsimp only); (repeat' split) <;> first | (simp; done) | (simp; rfl) | rfl |
      exact foldl_keeps State.core _ (fun _ _ => by simp) _ _
@[simp] theorem State.freeBay_yard (s : State) (b : Nat) :
    (s.freeBay b).yard = s.yard := by
  unfold State.freeBay; (try dsimp only); (repeat' split) <;> first | (simp; done) | (simp; rfl) | rfl |
      exact foldl_keeps State.yard _ (fun _ _ => by simp) _ _
@[simp] theorem State.freeBay_roster (s : State) (b : Nat) :
    (s.freeBay b).roster = s.roster := by
  unfold State.freeBay; (try dsimp only); (repeat' split) <;> first | (simp; done) | (simp; rfl) | rfl |
      exact foldl_keeps State.roster _ (fun _ _ => by simp) _ _
@[simp] theorem State.placeFromBay_core (s : State) (b v : Nat) :
    (s.placeFromBay b v).core = s.core := by
  unfold State.placeFromBay; (try dsimp only); split
  · next h => simp [State.tryPlace_core h]
  · simp
@[simp] theorem State.placeFromBay_roster (s : State) (b v : Nat) :
    (s.placeFromBay b v).roster = s.roster := by
  unfold State.placeFromBay; (try dsimp only); split
  · next h => simp [State.tryPlace_roster h]
  · simp
@[simp] theorem State.orderWash_core (l : Nat) : ∀ (q : List WashEntry) (s : State) (n : Nat),
    (s.orderWash l q n).core = s.core
  | [], _, _ => rfl
  | _ :: es, s, n => by
    unfold State.orderWash; dsimp only; rw [State.orderWash_core l es]; split <;> simp
@[simp] theorem State.orderWash_yard (l : Nat) : ∀ (q : List WashEntry) (s : State) (n : Nat),
    (s.orderWash l q n).yard = s.yard
  | [], _, _ => rfl
  | _ :: es, s, n => by
    unfold State.orderWash; dsimp only; rw [State.orderWash_yard l es]; split <;> simp
@[simp] theorem State.orderWash_energy (l : Nat) : ∀ (q : List WashEntry) (s : State) (n : Nat),
    (s.orderWash l q n).energy = s.energy
  | [], _, _ => rfl
  | _ :: es, s, n => by
    unfold State.orderWash; dsimp only; rw [State.orderWash_energy l es]; split <;> simp
@[simp] theorem State.orderWash_roster (l : Nat) : ∀ (q : List WashEntry) (s : State) (n : Nat),
    (s.orderWash l q n).roster = s.roster
  | [], _, _ => rfl
  | _ :: es, s, n => by
    unfold State.orderWash; dsimp only; rw [State.orderWash_roster l es]; split <;> simp
@[simp] theorem State.orderWash_bus (l : Nat) : ∀ (q : List WashEntry) (s : State) (n : Nat),
    (s.orderWash l q n).bus = s.bus
  | [], _, _ => rfl
  | _ :: es, s, n => by
    unfold State.orderWash; dsimp only; rw [State.orderWash_bus l es]; split <;> simp
@[simp] theorem State.orderWash_notices (l : Nat) : ∀ (q : List WashEntry) (s : State) (n : Nat),
    (s.orderWash l q n).notices = s.notices
  | [], _, _ => rfl
  | _ :: es, s, n => by
    unfold State.orderWash; dsimp only; rw [State.orderWash_notices l es]; split <;> simp
@[simp] theorem State.orderWash_faults (l : Nat) : ∀ (q : List WashEntry) (s : State) (n : Nat),
    (s.orderWash l q n).faults = s.faults
  | [], _, _ => rfl
  | _ :: es, s, n => by
    unfold State.orderWash; dsimp only; rw [State.orderWash_faults l es]; split <;> simp
@[simp] theorem State.putWashQueue_core (s : State) (l : Nat) (q : List WashEntry) :
    (s.putWashQueue l q).core = s.core := by
  unfold State.putWashQueue; (try dsimp only); (repeat' split) <;> first | (simp; done) | (simp; rfl) | rfl |
      exact foldl_keeps State.core _ (fun _ _ => by simp) _ _
@[simp] theorem State.putWashQueue_yard (s : State) (l : Nat) (q : List WashEntry) :
    (s.putWashQueue l q).yard = s.yard := by
  unfold State.putWashQueue; (try dsimp only); (repeat' split) <;> first | (simp; done) | (simp; rfl) | rfl |
      exact foldl_keeps State.yard _ (fun _ _ => by simp) _ _
@[simp] theorem State.putWashQueue_energy (s : State) (l : Nat) (q : List WashEntry) :
    (s.putWashQueue l q).energy = s.energy := by
  unfold State.putWashQueue; (try dsimp only); (repeat' split) <;> first | (simp; done) | (simp; rfl) | rfl |
      exact foldl_keeps State.energy _ (fun _ _ => by simp) _ _
@[simp] theorem State.putWashQueue_roster (s : State) (l : Nat) (q : List WashEntry) :
    (s.putWashQueue l q).roster = s.roster := by
  unfold State.putWashQueue; (try dsimp only); (repeat' split) <;> first | (simp; done) | (simp; rfl) | rfl |
      exact foldl_keeps State.roster _ (fun _ _ => by simp) _ _
@[simp] theorem State.putWashQueue_bus (s : State) (l : Nat) (q : List WashEntry) :
    (s.putWashQueue l q).bus = s.bus := by
  unfold State.putWashQueue; (try dsimp only); (repeat' split) <;> first | (simp; done) | (simp; rfl) | rfl |
      exact foldl_keeps State.bus _ (fun _ _ => by simp) _ _
@[simp] theorem State.putWashQueue_notices (s : State) (l : Nat) (q : List WashEntry) :
    (s.putWashQueue l q).notices = s.notices := by
  unfold State.putWashQueue; (try dsimp only); (repeat' split) <;> first | (simp; done) | (simp; rfl) | rfl |
      exact foldl_keeps State.notices _ (fun _ _ => by simp) _ _
@[simp] theorem State.putWashQueue_faults (s : State) (l : Nat) (q : List WashEntry) :
    (s.putWashQueue l q).faults = s.faults := by
  unfold State.putWashQueue; (try dsimp only); (repeat' split) <;> first | (simp; done) | (simp; rfl) | rfl |
      exact foldl_keeps State.faults _ (fun _ _ => by simp) _ _
@[simp] theorem State.directIn_core (s : State) (l : Nat) :
    (s.directIn l).core = s.core := by
  unfold State.directIn; (try dsimp only); (repeat' split) <;> first | (simp; done) | (simp; rfl) | rfl |
      exact foldl_keeps State.core _ (fun _ _ => by simp) _ _
@[simp] theorem State.directIn_yard (s : State) (l : Nat) :
    (s.directIn l).yard = s.yard := by
  unfold State.directIn; (try dsimp only); (repeat' split) <;> first | (simp; done) | (simp; rfl) | rfl |
      exact foldl_keeps State.yard _ (fun _ _ => by simp) _ _
@[simp] theorem State.directIn_roster (s : State) (l : Nat) :
    (s.directIn l).roster = s.roster := by
  unfold State.directIn; (try dsimp only); (repeat' split) <;> first | (simp; done) | (simp; rfl) | rfl |
      exact foldl_keeps State.roster _ (fun _ _ => by simp) _ _
@[simp] theorem State.settleWash_core (s : State) (l : Nat) :
    (s.settleWash l).core = s.core := by
  unfold State.settleWash; (try dsimp only); (repeat' split) <;> first | (simp; done) | (simp; rfl) | rfl |
      exact foldl_keeps State.core _ (fun _ _ => by simp) _ _
@[simp] theorem State.settleWash_yard (s : State) (l : Nat) :
    (s.settleWash l).yard = s.yard := by
  unfold State.settleWash; (try dsimp only); (repeat' split) <;> first | (simp; done) | (simp; rfl) | rfl |
      exact foldl_keeps State.yard _ (fun _ _ => by simp) _ _
@[simp] theorem State.settleWash_roster (s : State) (l : Nat) :
    (s.settleWash l).roster = s.roster := by
  unfold State.settleWash; (try dsimp only); (repeat' split) <;> first | (simp; done) | (simp; rfl) | rfl |
      exact foldl_keeps State.roster _ (fun _ _ => by simp) _ _
@[simp] theorem State.freeWash_core (s : State) (l : Nat) :
    (s.freeWash l).core = s.core := by
  unfold State.freeWash; (try dsimp only); (repeat' split) <;> first | (simp; done) | (simp; rfl) | rfl |
      exact foldl_keeps State.core _ (fun _ _ => by simp) _ _
@[simp] theorem State.freeWash_yard (s : State) (l : Nat) :
    (s.freeWash l).yard = s.yard := by
  unfold State.freeWash; (try dsimp only); (repeat' split) <;> first | (simp; done) | (simp; rfl) | rfl |
      exact foldl_keeps State.yard _ (fun _ _ => by simp) _ _
@[simp] theorem State.freeWash_roster (s : State) (l : Nat) :
    (s.freeWash l).roster = s.roster := by
  unfold State.freeWash; (try dsimp only); (repeat' split) <;> first | (simp; done) | (simp; rfl) | rfl |
      exact foldl_keeps State.roster _ (fun _ _ => by simp) _ _
@[simp] theorem State.leaveWashQueue_core (s : State) (l v : Nat) :
    (s.leaveWashQueue l v).core = s.core := by
  unfold State.leaveWashQueue; (try dsimp only); (repeat' split) <;> first | (simp; done) | (simp; rfl) | rfl |
      exact foldl_keeps State.core _ (fun _ _ => by simp) _ _
@[simp] theorem State.leaveWashQueue_yard (s : State) (l v : Nat) :
    (s.leaveWashQueue l v).yard = s.yard := by
  unfold State.leaveWashQueue; (try dsimp only); (repeat' split) <;> first | (simp; done) | (simp; rfl) | rfl |
      exact foldl_keeps State.yard _ (fun _ _ => by simp) _ _
@[simp] theorem State.leaveWashQueue_roster (s : State) (l v : Nat) :
    (s.leaveWashQueue l v).roster = s.roster := by
  unfold State.leaveWashQueue; (try dsimp only); (repeat' split) <;> first | (simp; done) | (simp; rfl) | rfl |
      exact foldl_keeps State.roster _ (fun _ _ => by simp) _ _
@[simp] theorem State.joinWash_core (s : State) (l v : Nat) (heavy : Bool) :
    (s.joinWash l v heavy).core = s.core := by
  unfold State.joinWash; (try dsimp only); (repeat' split) <;> first | (simp; done) | (simp; rfl) | rfl |
      exact foldl_keeps State.core _ (fun _ _ => by simp) _ _
@[simp] theorem State.joinWash_yard (s : State) (l v : Nat) (heavy : Bool) :
    (s.joinWash l v heavy).yard = s.yard := by
  unfold State.joinWash; (try dsimp only); (repeat' split) <;> first | (simp; done) | (simp; rfl) | rfl |
      exact foldl_keeps State.yard _ (fun _ _ => by simp) _ _
@[simp] theorem State.joinWash_energy (s : State) (l v : Nat) (heavy : Bool) :
    (s.joinWash l v heavy).energy = s.energy := by
  unfold State.joinWash; (try dsimp only); (repeat' split) <;> first | (simp; done) | (simp; rfl) | rfl |
      exact foldl_keeps State.energy _ (fun _ _ => by simp) _ _
@[simp] theorem State.joinWash_roster (s : State) (l v : Nat) (heavy : Bool) :
    (s.joinWash l v heavy).roster = s.roster := by
  unfold State.joinWash; (try dsimp only); (repeat' split) <;> first | (simp; done) | (simp; rfl) | rfl |
      exact foldl_keeps State.roster _ (fun _ _ => by simp) _ _
@[simp] theorem State.joinWash_bus (s : State) (l v : Nat) (heavy : Bool) :
    (s.joinWash l v heavy).bus = s.bus := by
  unfold State.joinWash; (try dsimp only); (repeat' split) <;> first | (simp; done) | (simp; rfl) | rfl |
      exact foldl_keeps State.bus _ (fun _ _ => by simp) _ _
@[simp] theorem State.joinWash_notices (s : State) (l v : Nat) (heavy : Bool) :
    (s.joinWash l v heavy).notices = s.notices := by
  unfold State.joinWash; (try dsimp only); (repeat' split) <;> first | (simp; done) | (simp; rfl) | rfl |
      exact foldl_keeps State.notices _ (fun _ _ => by simp) _ _
@[simp] theorem State.joinWash_faults (s : State) (l v : Nat) (heavy : Bool) :
    (s.joinWash l v heavy).faults = s.faults := by
  unfold State.joinWash; (try dsimp only); (repeat' split) <;> first | (simp; done) | (simp; rfl) | rfl |
      exact foldl_keeps State.faults _ (fun _ _ => by simp) _ _
@[simp] theorem State.washDecision_core (s : State) (b v : Nat) :
    (s.washDecision b v).core = s.core := by
  unfold State.washDecision; (try dsimp only); (repeat' split) <;> first | (simp; done) | (simp; rfl) | rfl |
      exact foldl_keeps State.core _ (fun _ _ => by simp) _ _
@[simp] theorem State.washDecision_roster (s : State) (b v : Nat) :
    (s.washDecision b v).roster = s.roster := by
  unfold State.washDecision; (try dsimp only); (repeat' split) <;> first | (simp; done) | (simp; rfl) | rfl |
      exact foldl_keeps State.roster _ (fun _ _ => by simp) _ _
@[simp] theorem State.placeFromWash_core (s : State) (l v : Nat) :
    (s.placeFromWash l v).core = s.core := by
  unfold State.placeFromWash; (try dsimp only); split
  · next h => simp [State.tryPlace_core h]
  · simp
@[simp] theorem State.placeFromWash_roster (s : State) (l v : Nat) :
    (s.placeFromWash l v).roster = s.roster := by
  unfold State.placeFromWash; (try dsimp only); split
  · next h => simp [State.tryPlace_roster h]
  · simp
@[simp] theorem State.releaseStation_core (s : State) (v : Nat) (loc : Loc) :
    (s.releaseStation v loc).core = s.core := by
  unfold State.releaseStation; (try dsimp only); (repeat' split) <;> first | (simp; done) | (simp; rfl) | rfl |
      exact foldl_keeps State.core _ (fun _ _ => by simp) _ _
@[simp] theorem State.releaseStation_roster (s : State) (v : Nat) (loc : Loc) :
    (s.releaseStation v loc).roster = s.roster := by
  unfold State.releaseStation; (try dsimp only); (repeat' split) <;> first | (simp; done) | (simp; rfl) | rfl |
      exact foldl_keeps State.roster _ (fun _ _ => by simp) _ _
@[simp] theorem State.retryOne_core (s : State) (v : Nat) :
    (s.retryOne v).core = s.core := by
  unfold State.retryOne; (try dsimp only); split
  · next h => simp [State.tryPlace_core h]
  · simp
@[simp] theorem State.retryOne_roster (s : State) (v : Nat) :
    (s.retryOne v).roster = s.roster := by
  unfold State.retryOne; (try dsimp only); split
  · next h => simp [State.tryPlace_roster h]
  · simp
@[simp] theorem State.retry_core (s : State) :
    (s.retry).core = s.core := by
  unfold State.retry; (try dsimp only); (repeat' split) <;> first | (simp; done) | (simp; rfl) | rfl |
      exact foldl_keeps State.core _ (fun _ _ => by simp) _ _
@[simp] theorem State.retry_roster (s : State) :
    (s.retry).roster = s.roster := by
  unfold State.retry; (try dsimp only); (repeat' split) <;> first | (simp; done) | (simp; rfl) | rfl |
      exact foldl_keeps State.roster _ (fun _ _ => by simp) _ _
@[simp] theorem State.retryIf_core (s : State) (trigger : Bool) :
    (s.retryIf trigger).core = s.core := by
  unfold State.retryIf; (try dsimp only); (repeat' split) <;> first | (simp; done) | (simp; rfl) | rfl |
      exact foldl_keeps State.core _ (fun _ _ => by simp) _ _
@[simp] theorem State.retryIf_roster (s : State) (trigger : Bool) :
    (s.retryIf trigger).roster = s.roster := by
  unfold State.retryIf; (try dsimp only); (repeat' split) <;> first | (simp; done) | (simp; rfl) | rfl |
      exact foldl_keeps State.roster _ (fun _ _ => by simp) _ _
@[simp] theorem State.forgetOccupant_core (s : State) (b : Nat) :
    (s.forgetOccupant b).core = s.core := by
  unfold State.forgetOccupant; (try dsimp only); (repeat' split) <;> first | (simp; done) | (simp; rfl) | rfl |
      exact foldl_keeps State.core _ (fun _ _ => by simp) _ _
@[simp] theorem State.forgetOccupant_yard (s : State) (b : Nat) :
    (s.forgetOccupant b).yard = s.yard := by
  unfold State.forgetOccupant; (try dsimp only); (repeat' split) <;> first | (simp; done) | (simp; rfl) | rfl |
      exact foldl_keeps State.yard _ (fun _ _ => by simp) _ _
@[simp] theorem State.forgetOccupant_roster (s : State) (b : Nat) :
    (s.forgetOccupant b).roster = s.roster := by
  unfold State.forgetOccupant; (try dsimp only); (repeat' split) <;> first | (simp; done) | (simp; rfl) | rfl |
      exact foldl_keeps State.roster _ (fun _ _ => by simp) _ _
@[simp] theorem State.leaveLine_core (s : State) (v : Nat) (r : Vehicle) :
    (s.leaveLine v r).core = s.core := by
  unfold State.leaveLine; (try dsimp only); (repeat' split) <;> first | (simp; done) | (simp; rfl) | rfl |
      exact foldl_keeps State.core _ (fun _ _ => by simp) _ _
@[simp] theorem State.leaveLine_yard (s : State) (v : Nat) (r : Vehicle) :
    (s.leaveLine v r).yard = s.yard := by
  unfold State.leaveLine; (try dsimp only); (repeat' split) <;> first | (simp; done) | (simp; rfl) | rfl |
      exact foldl_keeps State.yard _ (fun _ _ => by simp) _ _
@[simp] theorem State.leaveLine_roster (s : State) (v : Nat) (r : Vehicle) :
    (s.leaveLine v r).roster = s.roster := by
  unfold State.leaveLine; (try dsimp only); (repeat' split) <;> first | (simp; done) | (simp; rfl) | rfl |
      exact foldl_keeps State.roster _ (fun _ _ => by simp) _ _
@[simp] theorem State.abandonOne_core (s : State) (v : Nat) :
    (s.abandonOne v).core = s.core := by
  unfold State.abandonOne; (try dsimp only); (repeat' split) <;> first | (simp; done) | (simp; rfl) | rfl |
      exact foldl_keeps State.core _ (fun _ _ => by simp) _ _
@[simp] theorem State.abandonOne_roster (s : State) (v : Nat) :
    (s.abandonOne v).roster = s.roster := by
  unfold State.abandonOne; (try dsimp only); (repeat' split) <;> first | (simp; done) | (simp; rfl) | rfl |
      exact foldl_keeps State.roster _ (fun _ _ => by simp) _ _
@[simp] theorem State.abandonLine_core (s : State) :
    (s.abandonLine).core = s.core := by
  unfold State.abandonLine; (try dsimp only); (repeat' split) <;> first | (simp; done) | (simp; rfl) | rfl |
      exact foldl_keeps State.core _ (fun _ _ => by simp) _ _
@[simp] theorem State.abandonLine_roster (s : State) :
    (s.abandonLine).roster = s.roster := by
  unfold State.abandonLine; (try dsimp only); (repeat' split) <;> first | (simp; done) | (simp; rfl) | rfl |
      exact foldl_keeps State.roster _ (fun _ _ => by simp) _ _
@[simp] theorem State.expireBay_core (s : State) (b : Nat) :
    (s.expireBay b).core = s.core := by
  unfold State.expireBay; (try dsimp only); (repeat' split) <;> first | (simp; done) | (simp; rfl) | rfl |
      exact foldl_keeps State.core _ (fun _ _ => by simp) _ _
@[simp] theorem State.expireBay_roster (s : State) (b : Nat) :
    (s.expireBay b).roster = s.roster := by
  unfold State.expireBay; (try dsimp only); (repeat' split) <;> first | (simp; done) | (simp; rfl) | rfl |
      exact foldl_keeps State.roster _ (fun _ _ => by simp) _ _
@[simp] theorem State.expireWash_core (s : State) (l : Nat) :
    (s.expireWash l).core = s.core := by
  unfold State.expireWash; (try dsimp only); (repeat' split) <;> first | (simp; done) | (simp; rfl) | rfl |
      exact foldl_keeps State.core _ (fun _ _ => by simp) _ _
@[simp] theorem State.expireWash_roster (s : State) (l : Nat) :
    (s.expireWash l).roster = s.roster := by
  unfold State.expireWash; (try dsimp only); (repeat' split) <;> first | (simp; done) | (simp; rfl) | rfl |
      exact foldl_keeps State.roster _ (fun _ _ => by simp) _ _

end Sys2Proof.Machine
end

