-- ==== Sys2Proof/Laws/Roster.lean ====
section
/-! SUPPORT. What each operation of the Roster Unit leaves alone: one lemma per view. -/

namespace Sys2Proof.Machine

@[simp] theorem State.setAssignment_core (s : State) (v : Nat) (n : Option Nat) :
    (s.setAssignment v n).core = s.core := by
  unfold State.setAssignment; (try dsimp only); (repeat' split) <;> first | (simp; done) | (simp; rfl) | rfl |
      exact foldl_keeps State.core _ (fun _ _ => by simp) _ _
@[simp] theorem State.setAssignment_service (s : State) (v : Nat) (n : Option Nat) :
    (s.setAssignment v n).service = s.service := by
  unfold State.setAssignment; (try dsimp only); (repeat' split) <;> first | (simp; done) | (simp; rfl) | rfl |
      exact foldl_keeps State.service _ (fun _ _ => by simp) _ _
@[simp] theorem State.setAssignment_yard (s : State) (v : Nat) (n : Option Nat) :
    (s.setAssignment v n).yard = s.yard := by
  unfold State.setAssignment; (try dsimp only); (repeat' split) <;> first | (simp; done) | (simp; rfl) | rfl |
      exact foldl_keeps State.yard _ (fun _ _ => by simp) _ _
@[simp] theorem State.setAssignment_energy (s : State) (v : Nat) (n : Option Nat) :
    (s.setAssignment v n).energy = s.energy := by
  unfold State.setAssignment; (try dsimp only); (repeat' split) <;> first | (simp; done) | (simp; rfl) | rfl |
      exact foldl_keeps State.energy _ (fun _ _ => by simp) _ _
@[simp] theorem State.setAssignment_roster (s : State) (v : Nat) (n : Option Nat) :
    (s.setAssignment v n).roster = s.roster := by
  unfold State.setAssignment; (try dsimp only); (repeat' split) <;> first | (simp; done) | (simp; rfl) | rfl |
      exact foldl_keeps State.roster _ (fun _ _ => by simp) _ _
@[simp] theorem State.setAssignment_bus (s : State) (v : Nat) (n : Option Nat) :
    (s.setAssignment v n).bus = s.bus := by
  unfold State.setAssignment; (try dsimp only); (repeat' split) <;> first | (simp; done) | (simp; rfl) | rfl |
      exact foldl_keeps State.bus _ (fun _ _ => by simp) _ _
@[simp] theorem State.setAssignment_notices (s : State) (v : Nat) (n : Option Nat) :
    (s.setAssignment v n).notices = s.notices := by
  unfold State.setAssignment; (try dsimp only); (repeat' split) <;> first | (simp; done) | (simp; rfl) | rfl |
      exact foldl_keeps State.notices _ (fun _ _ => by simp) _ _
@[simp] theorem State.setAssignment_faults (s : State) (v : Nat) (n : Option Nat) :
    (s.setAssignment v n).faults = s.faults := by
  unfold State.setAssignment; (try dsimp only); (repeat' split) <;> first | (simp; done) | (simp; rfl) | rfl |
      exact foldl_keeps State.faults _ (fun _ _ => by simp) _ _
@[simp] theorem State.rekey_core (s : State) (v : Nat) :
    (s.rekey v).core = s.core := by
  unfold State.rekey; (try dsimp only); (repeat' split) <;> first | (simp; done) | (simp; rfl) | rfl |
      exact foldl_keeps State.core _ (fun _ _ => by simp) _ _
@[simp] theorem State.rekey_service (s : State) (v : Nat) :
    (s.rekey v).service = s.service := by
  unfold State.rekey; (try dsimp only); (repeat' split) <;> first | (simp; done) | (simp; rfl) | rfl |
      exact foldl_keeps State.service _ (fun _ _ => by simp) _ _
@[simp] theorem State.rekey_yard (s : State) (v : Nat) :
    (s.rekey v).yard = s.yard := by
  unfold State.rekey; (try dsimp only); (repeat' split) <;> first | (simp; done) | (simp; rfl) | rfl |
      exact foldl_keeps State.yard _ (fun _ _ => by simp) _ _
@[simp] theorem State.rekey_energy (s : State) (v : Nat) :
    (s.rekey v).energy = s.energy := by
  unfold State.rekey; (try dsimp only); (repeat' split) <;> first | (simp; done) | (simp; rfl) | rfl |
      exact foldl_keeps State.energy _ (fun _ _ => by simp) _ _
@[simp] theorem State.rekey_roster (s : State) (v : Nat) :
    (s.rekey v).roster = s.roster := by
  unfold State.rekey; (try dsimp only); (repeat' split) <;> first | (simp; done) | (simp; rfl) | rfl |
      exact foldl_keeps State.roster _ (fun _ _ => by simp) _ _
@[simp] theorem State.rekey_bus (s : State) (v : Nat) :
    (s.rekey v).bus = s.bus := by
  unfold State.rekey; (try dsimp only); (repeat' split) <;> first | (simp; done) | (simp; rfl) | rfl |
      exact foldl_keeps State.bus _ (fun _ _ => by simp) _ _
@[simp] theorem State.rekey_notices (s : State) (v : Nat) :
    (s.rekey v).notices = s.notices := by
  unfold State.rekey; (try dsimp only); (repeat' split) <;> first | (simp; done) | (simp; rfl) | rfl |
      exact foldl_keeps State.notices _ (fun _ _ => by simp) _ _
@[simp] theorem State.rekey_faults (s : State) (v : Nat) :
    (s.rekey v).faults = s.faults := by
  unfold State.rekey; (try dsimp only); (repeat' split) <;> first | (simp; done) | (simp; rfl) | rfl |
      exact foldl_keeps State.faults _ (fun _ _ => by simp) _ _
@[simp] theorem State.passOn_core (s : State) (vs : List Nat) :
    (s.passOn vs).core = s.core := by
  unfold State.passOn; (try dsimp only); (repeat' split) <;> first | (simp; done) | (simp; rfl) | rfl |
      exact foldl_keeps State.core _ (fun _ _ => by simp) _ _
@[simp] theorem State.passOn_service (s : State) (vs : List Nat) :
    (s.passOn vs).service = s.service := by
  unfold State.passOn; (try dsimp only); (repeat' split) <;> first | (simp; done) | (simp; rfl) | rfl |
      exact foldl_keeps State.service _ (fun _ _ => by simp) _ _
@[simp] theorem State.passOn_roster (s : State) (vs : List Nat) :
    (s.passOn vs).roster = s.roster := by
  unfold State.passOn; (try dsimp only); (repeat' split) <;> first | (simp; done) | (simp; rfl) | rfl |
      exact foldl_keeps State.roster _ (fun _ _ => by simp) _ _
@[simp] theorem State.passChanges_core (s before : State) : (s.passChanges before).core = s.core := by
  unfold State.passChanges; simp
@[simp] theorem State.passChanges_service (s before : State) : (s.passChanges before).service = s.service := by
  unfold State.passChanges; simp
@[simp] theorem State.passChanges_roster (s before : State) : (s.passChanges before).roster = s.roster := by
  unfold State.passChanges; simp
@[simp] theorem State.endCharging_core (s : State) (v : Nat) :
    (s.endCharging v).core = s.core := by
  unfold State.endCharging; (try dsimp only); (repeat' split) <;> first | (simp; done) | (simp; rfl) | rfl |
      exact foldl_keeps State.core _ (fun _ _ => by simp) _ _
@[simp] theorem State.endCharging_jobs (s : State) (v : Nat) :
    (s.endCharging v).jobs = s.jobs := by
  unfold State.endCharging; (try dsimp only); (repeat' split) <;> first | (simp; done) | (simp; rfl) | rfl |
      exact foldl_keeps State.jobs _ (fun _ _ => by simp) _ _
@[simp] theorem State.endCharging_fleet (s : State) (v : Nat) :
    (s.endCharging v).fleet = s.fleet := fleet_of_jobs (by simp)
@[simp] theorem State.endCharging_service (s : State) (v : Nat) :
    (s.endCharging v).service = s.service := service_of_jobs (by simp)
@[simp] theorem State.endCharging_yard (s : State) (v : Nat) :
    (s.endCharging v).yard = s.yard := yard_of_jobs (by simp)
@[simp] theorem State.endCharging_roster (s : State) (v : Nat) :
    (s.endCharging v).roster = s.roster := roster_of_jobs (by simp)
@[simp] theorem State.callVehicle_core (s : State) (n v : Nat) :
    (s.callVehicle n v).core = s.core := by
  unfold State.callVehicle; (try dsimp only); (repeat' split) <;> first | (simp; done) | (simp; rfl) | rfl |
      exact foldl_keeps State.core _ (fun _ _ => by simp) _ _
@[simp] theorem State.callVehicle_service (s : State) (n v : Nat) :
    (s.callVehicle n v).service = s.service := by
  unfold State.callVehicle; (try dsimp only); (repeat' split) <;> first | (simp; done) | (simp; rfl) | rfl |
      exact foldl_keeps State.service _ (fun _ _ => by simp) _ _
@[simp] theorem State.closeUnconfirmed_core (s : State) (n v : Nat) (st : SlotState) :
    (s.closeUnconfirmed n v st).core = s.core := by
  unfold State.closeUnconfirmed; (try dsimp only); (repeat' split) <;> first | (simp; done) | (simp; rfl) | rfl |
      exact foldl_keeps State.core _ (fun _ _ => by simp) _ _
@[simp] theorem State.closeUnconfirmed_service (s : State) (n v : Nat) (st : SlotState) :
    (s.closeUnconfirmed n v st).service = s.service := by
  unfold State.closeUnconfirmed; (try dsimp only); (repeat' split) <;> first | (simp; done) | (simp; rfl) | rfl |
      exact foldl_keeps State.service _ (fun _ _ => by simp) _ _
@[simp] theorem State.finishUnconfirmed_core (s : State) (n v : Nat) (st : SlotState) :
    (s.finishUnconfirmed n v st).core = s.core := by
  unfold State.finishUnconfirmed; (try dsimp only); (repeat' split) <;> first | (simp; done) | (simp; rfl) | rfl |
      exact foldl_keeps State.core _ (fun _ _ => by simp) _ _
@[simp] theorem State.finishUnconfirmed_service (s : State) (n v : Nat) (st : SlotState) :
    (s.finishUnconfirmed n v st).service = s.service := by
  unfold State.finishUnconfirmed; (try dsimp only); (repeat' split) <;> first | (simp; done) | (simp; rfl) | rfl |
      exact foldl_keeps State.service _ (fun _ _ => by simp) _ _
@[simp] theorem State.withdrawStanding_core (s : State) (n v : Nat) (c : Call) :
    (s.withdrawStanding n v c).core = s.core := by
  unfold State.withdrawStanding; (try dsimp only); (repeat' split) <;> first | (simp; done) | (simp; rfl) | rfl |
      exact foldl_keeps State.core _ (fun _ _ => by simp) _ _
@[simp] theorem State.withdrawStanding_service (s : State) (n v : Nat) (c : Call) :
    (s.withdrawStanding n v c).service = s.service := by
  unfold State.withdrawStanding; (try dsimp only); (repeat' split) <;> first | (simp; done) | (simp; rfl) | rfl |
      exact foldl_keeps State.service _ (fun _ _ => by simp) _ _
@[simp] theorem State.withdrawCall_core (s : State) (n : Nat) :
    (s.withdrawCall n).core = s.core := by
  unfold State.withdrawCall State.endCall; (try dsimp only); (repeat' split) <;> first | (simp; done) | (simp; rfl) | rfl |
      exact foldl_keeps State.core _ (fun _ _ => by simp) _ _
@[simp] theorem State.withdrawCall_service (s : State) (n : Nat) :
    (s.withdrawCall n).service = s.service := by
  unfold State.withdrawCall State.endCall; (try dsimp only); (repeat' split) <;> first | (simp; done) | (simp; rfl) | rfl |
      exact foldl_keeps State.service _ (fun _ _ => by simp) _ _
@[simp] theorem State.withdrawAll_core (s : State) :
    (s.withdrawAll).core = s.core := by
  unfold State.withdrawAll; (try dsimp only); (repeat' split) <;> first | (simp; done) | (simp; rfl) | rfl |
      exact foldl_keeps State.core _ (fun _ _ => by simp) _ _
@[simp] theorem State.withdrawAll_service (s : State) :
    (s.withdrawAll).service = s.service := by
  unfold State.withdrawAll; (try dsimp only); (repeat' split) <;> first | (simp; done) | (simp; rfl) | rfl |
      exact foldl_keeps State.service _ (fun _ _ => by simp) _ _
@[simp] theorem State.settleCall_core (s : State) (n : Nat) :
    (s.settleCall n).core = s.core := by
  unfold State.settleCall State.endCall; (try dsimp only); (repeat' split) <;> first | (simp; done) | (simp; rfl) | rfl |
      exact foldl_keeps State.core _ (fun _ _ => by simp) _ _
@[simp] theorem State.settleCall_service (s : State) (n : Nat) :
    (s.settleCall n).service = s.service := by
  unfold State.settleCall State.endCall; (try dsimp only); (repeat' split) <;> first | (simp; done) | (simp; rfl) | rfl |
      exact foldl_keeps State.service _ (fun _ _ => by simp) _ _
@[simp] theorem State.settleAll_core (s : State) :
    (s.settleAll).core = s.core := by
  unfold State.settleAll; (try dsimp only); (repeat' split) <;> first | (simp; done) | (simp; rfl) | rfl |
      exact foldl_keeps State.core _ (fun _ _ => by simp) _ _
@[simp] theorem State.settleAll_service (s : State) :
    (s.settleAll).service = s.service := by
  unfold State.settleAll; (try dsimp only); (repeat' split) <;> first | (simp; done) | (simp; rfl) | rfl |
      exact foldl_keeps State.service _ (fun _ _ => by simp) _ _
@[simp] theorem State.withdrawFrom_core (s : State) (v : Nat) :
    (s.withdrawFrom v).core = s.core := by
  unfold State.withdrawFrom; (try dsimp only); (repeat' split) <;> first | (simp; done) | (simp; rfl) | rfl |
      exact foldl_keeps State.core _ (fun _ _ => by simp) _ _
@[simp] theorem State.withdrawFrom_service (s : State) (v : Nat) :
    (s.withdrawFrom v).service = s.service := by
  unfold State.withdrawFrom; (try dsimp only); (repeat' split) <;> first | (simp; done) | (simp; rfl) | rfl |
      exact foldl_keeps State.service _ (fun _ _ => by simp) _ _
@[simp] theorem State.swap_core (s : State) (x : Slot) (w : Nat) :
    (s.swap x w).core = s.core := by
  unfold State.swap; (try dsimp only); (repeat' split) <;> first | (simp; done) | (simp; rfl) | rfl |
      exact foldl_keeps State.core _ (fun _ _ => by simp) _ _
@[simp] theorem State.swap_service (s : State) (x : Slot) (w : Nat) :
    (s.swap x w).service = s.service := by
  unfold State.swap; (try dsimp only); (repeat' split) <;> first | (simp; done) | (simp; rfl) | rfl |
      exact foldl_keeps State.service _ (fun _ _ => by simp) _ _
@[simp] theorem State.graceTest_core (s : State) (n : Nat) :
    (s.graceTest n).core = s.core := by
  unfold State.graceTest; (try dsimp only); (repeat' split) <;> first | (simp; done) | (simp; rfl) | rfl |
      exact foldl_keeps State.core _ (fun _ _ => by simp) _ _
@[simp] theorem State.graceTest_service (s : State) (n : Nat) :
    (s.graceTest n).service = s.service := by
  unfold State.graceTest; (try dsimp only); (repeat' split) <;> first | (simp; done) | (simp; rfl) | rfl |
      exact foldl_keeps State.service _ (fun _ _ => by simp) _ _
theorem attemptOne_core (acc : State × List Nat) (n : Nat) : (attemptOne acc n).1.core = acc.1.core := by
  unfold attemptOne
  dsimp only
  split
  · rfl
  · split
    · rfl
    · split <;> simp
@[simp] theorem State.attemptPass_core (s : State) (skip : List Nat) : (s.attemptPass skip).core = s.core := by
  unfold State.attemptPass
  split
  · exact foldl_keeps (fun a : State × List Nat => a.1.core) attemptOne attemptOne_core _ _
  · rfl
theorem attemptOne_service (acc : State × List Nat) (n : Nat) : (attemptOne acc n).1.service = acc.1.service := by
  unfold attemptOne
  dsimp only
  split
  · rfl
  · split
    · rfl
    · split <;> simp
@[simp] theorem State.attemptPass_service (s : State) (skip : List Nat) : (s.attemptPass skip).service = s.service := by
  unfold State.attemptPass
  split
  · exact foldl_keeps (fun a : State × List Nat => a.1.service) attemptOne attemptOne_service _ _
  · rfl
@[simp] theorem State.attemptIf_core (s : State) (trigger : Bool) :
    (s.attemptIf trigger).core = s.core := by
  unfold State.attemptIf; (try dsimp only); (repeat' split) <;> first | (simp; done) | (simp; rfl) | rfl |
      exact foldl_keeps State.core _ (fun _ _ => by simp) _ _
@[simp] theorem State.attemptIf_service (s : State) (trigger : Bool) :
    (s.attemptIf trigger).service = s.service := by
  unfold State.attemptIf; (try dsimp only); (repeat' split) <;> first | (simp; done) | (simp; rfl) | rfl |
      exact foldl_keeps State.service _ (fun _ _ => by simp) _ _
@[simp] theorem State.graceTests_core (s : State) :
    (s.graceTests).core = s.core := by
  unfold State.graceTests; (try dsimp only); (repeat' split) <;> first | (simp; done) | (simp; rfl) | rfl |
      exact foldl_keeps State.core _ (fun _ _ => by simp) _ _
@[simp] theorem State.graceTests_service (s : State) :
    (s.graceTests).service = s.service := by
  unfold State.graceTests; (try dsimp only); (repeat' split) <;> first | (simp; done) | (simp; rfl) | rfl |
      exact foldl_keeps State.service _ (fun _ _ => by simp) _ _
@[simp] theorem State.timeoutCall_core (s : State) (n : Nat) :
    (s.timeoutCall n).core = s.core := by
  unfold State.timeoutCall; (try dsimp only); (repeat' split) <;> first | (simp; done) | (simp; rfl) | rfl |
      exact foldl_keeps State.core _ (fun _ _ => by simp) _ _
@[simp] theorem State.timeoutCall_service (s : State) (n : Nat) :
    (s.timeoutCall n).service = s.service := by
  unfold State.timeoutCall; (try dsimp only); (repeat' split) <;> first | (simp; done) | (simp; rfl) | rfl |
      exact foldl_keeps State.service _ (fun _ _ => by simp) _ _
@[simp] theorem State.freeSlots_core (s : State) (xs : List Slot) :
    (s.freeSlots xs).core = s.core := by
  unfold State.freeSlots; (try dsimp only); (repeat' split) <;> first | (simp; done) | (simp; rfl) | rfl |
      exact foldl_keeps State.core _ (fun _ _ => by simp) _ _
@[simp] theorem State.freeSlots_jobs (s : State) (xs : List Slot) :
    (s.freeSlots xs).jobs = s.jobs := by
  unfold State.freeSlots; (try dsimp only); (repeat' split) <;> first | (simp; done) | (simp; rfl) | rfl |
      exact foldl_keeps State.jobs _ (fun _ _ => by simp) _ _
@[simp] theorem State.freeSlots_energy (s : State) (xs : List Slot) :
    (s.freeSlots xs).energy = s.energy := by
  unfold State.freeSlots; (try dsimp only); (repeat' split) <;> first | (simp; done) | (simp; rfl) | rfl |
      exact foldl_keeps State.energy _ (fun _ _ => by simp) _ _
@[simp] theorem State.freeSlots_bus (s : State) (xs : List Slot) :
    (s.freeSlots xs).bus = s.bus := by
  unfold State.freeSlots; (try dsimp only); (repeat' split) <;> first | (simp; done) | (simp; rfl) | rfl |
      exact foldl_keeps State.bus _ (fun _ _ => by simp) _ _
@[simp] theorem State.freeSlots_notices (s : State) (xs : List Slot) :
    (s.freeSlots xs).notices = s.notices := by
  unfold State.freeSlots; (try dsimp only); (repeat' split) <;> first | (simp; done) | (simp; rfl) | rfl |
      exact foldl_keeps State.notices _ (fun _ _ => by simp) _ _
@[simp] theorem State.freeSlots_fleet (s : State) (xs : List Slot) :
    (s.freeSlots xs).fleet = s.fleet := fleet_of_jobs (by simp)
@[simp] theorem State.freeSlots_service (s : State) (xs : List Slot) :
    (s.freeSlots xs).service = s.service := service_of_jobs (by simp)
@[simp] theorem State.freeSlots_yard (s : State) (xs : List Slot) :
    (s.freeSlots xs).yard = s.yard := yard_of_jobs (by simp)
@[simp] theorem State.freeSlots_roster (s : State) (xs : List Slot) :
    (s.freeSlots xs).roster = s.roster := roster_of_jobs (by simp)
@[simp] theorem State.clearAssignments_core (s : State) :
    (s.clearAssignments).core = s.core := by
  unfold State.clearAssignments; (try dsimp only); (repeat' split) <;> first | (simp; done) | (simp; rfl) | rfl |
      exact foldl_keeps State.core _ (fun _ _ => by simp) _ _
@[simp] theorem State.clearAssignments_service (s : State) :
    (s.clearAssignments).service = s.service := by
  unfold State.clearAssignments; (try dsimp only); (repeat' split) <;> first | (simp; done) | (simp; rfl) | rfl |
      exact foldl_keeps State.service _ (fun _ _ => by simp) _ _
@[simp] theorem State.clearAssignments_yard (s : State) :
    (s.clearAssignments).yard = s.yard := by
  unfold State.clearAssignments; (try dsimp only); (repeat' split) <;> first | (simp; done) | (simp; rfl) | rfl |
      exact foldl_keeps State.yard _ (fun _ _ => by simp) _ _
@[simp] theorem State.clearAssignments_energy (s : State) :
    (s.clearAssignments).energy = s.energy := by
  unfold State.clearAssignments; (try dsimp only); (repeat' split) <;> first | (simp; done) | (simp; rfl) | rfl |
      exact foldl_keeps State.energy _ (fun _ _ => by simp) _ _
@[simp] theorem State.clearAssignments_roster (s : State) :
    (s.clearAssignments).roster = s.roster := by
  unfold State.clearAssignments; (try dsimp only); (repeat' split) <;> first | (simp; done) | (simp; rfl) | rfl |
      exact foldl_keeps State.roster _ (fun _ _ => by simp) _ _
@[simp] theorem State.clearAssignments_bus (s : State) :
    (s.clearAssignments).bus = s.bus := by
  unfold State.clearAssignments; (try dsimp only); (repeat' split) <;> first | (simp; done) | (simp; rfl) | rfl |
      exact foldl_keeps State.bus _ (fun _ _ => by simp) _ _
@[simp] theorem State.clearAssignments_notices (s : State) :
    (s.clearAssignments).notices = s.notices := by
  unfold State.clearAssignments; (try dsimp only); (repeat' split) <;> first | (simp; done) | (simp; rfl) | rfl |
      exact foldl_keeps State.notices _ (fun _ _ => by simp) _ _
@[simp] theorem State.clearAssignments_faults (s : State) :
    (s.clearAssignments).faults = s.faults := by
  unfold State.clearAssignments; (try dsimp only); (repeat' split) <;> first | (simp; done) | (simp; rfl) | rfl |
      exact foldl_keeps State.faults _ (fun _ _ => by simp) _ _
@[simp] theorem State.linkSlot_core (s : State) (x : Slot) :
    (s.linkSlot x).core = s.core := by
  unfold State.linkSlot; (try dsimp only); (repeat' split) <;> first | (simp; done) | (simp; rfl) | rfl |
      exact foldl_keeps State.core _ (fun _ _ => by simp) _ _
@[simp] theorem State.linkSlot_service (s : State) (x : Slot) :
    (s.linkSlot x).service = s.service := by
  unfold State.linkSlot; (try dsimp only); (repeat' split) <;> first | (simp; done) | (simp; rfl) | rfl |
      exact foldl_keeps State.service _ (fun _ _ => by simp) _ _
@[simp] theorem State.linkSlot_yard (s : State) (x : Slot) :
    (s.linkSlot x).yard = s.yard := by
  unfold State.linkSlot; (try dsimp only); (repeat' split) <;> first | (simp; done) | (simp; rfl) | rfl |
      exact foldl_keeps State.yard _ (fun _ _ => by simp) _ _
@[simp] theorem State.linkSlot_energy (s : State) (x : Slot) :
    (s.linkSlot x).energy = s.energy := by
  unfold State.linkSlot; (try dsimp only); (repeat' split) <;> first | (simp; done) | (simp; rfl) | rfl |
      exact foldl_keeps State.energy _ (fun _ _ => by simp) _ _
@[simp] theorem State.linkSlot_roster (s : State) (x : Slot) :
    (s.linkSlot x).roster = s.roster := by
  unfold State.linkSlot; (try dsimp only); (repeat' split) <;> first | (simp; done) | (simp; rfl) | rfl |
      exact foldl_keeps State.roster _ (fun _ _ => by simp) _ _
@[simp] theorem State.linkSlot_bus (s : State) (x : Slot) :
    (s.linkSlot x).bus = s.bus := by
  unfold State.linkSlot; (try dsimp only); (repeat' split) <;> first | (simp; done) | (simp; rfl) | rfl |
      exact foldl_keeps State.bus _ (fun _ _ => by simp) _ _
@[simp] theorem State.linkSlot_notices (s : State) (x : Slot) :
    (s.linkSlot x).notices = s.notices := by
  unfold State.linkSlot; (try dsimp only); (repeat' split) <;> first | (simp; done) | (simp; rfl) | rfl |
      exact foldl_keeps State.notices _ (fun _ _ => by simp) _ _
@[simp] theorem State.linkSlot_faults (s : State) (x : Slot) :
    (s.linkSlot x).faults = s.faults := by
  unfold State.linkSlot; (try dsimp only); (repeat' split) <;> first | (simp; done) | (simp; rfl) | rfl |
      exact foldl_keeps State.faults _ (fun _ _ => by simp) _ _
@[simp] theorem State.commit_core (s : State) : s.commit.core = s.core := by
  unfold State.commit
  dsimp only
  rw [State.passChanges_core, foldl_core _ (fun _ _ => by simp)]
  exact (State.clearAssignments_core _).trans (State.freeSlots_core _ _)
@[simp] theorem State.commit_service (s : State) : s.commit.service = s.service := by
  unfold State.commit
  dsimp only
  rw [State.passChanges_service, foldl_service _ (fun _ _ => by simp)]
  exact (State.clearAssignments_service _).trans (State.freeSlots_service _ _)
@[simp] theorem State.emptyActive_core (s : State) :
    (s.emptyActive).core = s.core := by
  unfold State.emptyActive; (try dsimp only); (repeat' split) <;> first | (simp; done) | (simp; rfl) | rfl |
      exact foldl_keeps State.core _ (fun _ _ => by simp) _ _
@[simp] theorem State.emptyActive_service (s : State) :
    (s.emptyActive).service = s.service := by
  unfold State.emptyActive; (try dsimp only); (repeat' split) <;> first | (simp; done) | (simp; rfl) | rfl |
      exact foldl_keeps State.service _ (fun _ _ => by simp) _ _
@[simp] theorem State.rollRoster_core (s : State) :
    (s.rollRoster).core = s.core := by
  unfold State.rollRoster; (try dsimp only); (repeat' split) <;> first | (simp; done) | (simp; rfl) | rfl |
      exact foldl_keeps State.core _ (fun _ _ => by simp) _ _
@[simp] theorem State.rollRoster_service (s : State) :
    (s.rollRoster).service = s.service := by
  unfold State.rollRoster; (try dsimp only); (repeat' split) <;> first | (simp; done) | (simp; rfl) | rfl |
      exact foldl_keeps State.service _ (fun _ _ => by simp) _ _

end Sys2Proof.Machine
end

