-- ==== Sys2Proof/Laws/Requests.lean ====
section
/-! SUPPORT. What a good frame does to a part that takes requests, and what a request's first checks do. -/

namespace Sys2Proof.Machine

/-- R154: a request that is taken is carried out on the state as it stands, and its response begins. -/
theorem State.goodFrame_ready {s : State} (h : s.ready = true) (serve : State → Reply × State) (code tag : Byte) :
    s.goodFrame serve code tag = { (serve s).2 with
      link := (serve s).2.link.answering s.link.rate
        { code := code, status := (serve s).1.status, tag := tag, body := (serve s).1.body } } := by
  simp only [State.ready, Bool.and_eq_true, Bool.not_eq_true', beq_iff_eq] at h
  simp only [State.goodFrame, h.1, h.2]
  rfl

/-- R156: a request that changes nothing is answered and nothing else changes. -/
theorem State.goodFrame_same {s : State} (h : s.ready = true) {serve : State → Reply × State} {r : Reply}
    (hs : serve s = (r, s)) (code tag : Byte) :
    s.goodFrame serve code tag = { s with link := s.linkAnswering code r.status tag r.body } := by
  rw [State.goodFrame_ready h, hs]; rfl

/-- R156: a request whose effect leaves the core alone is answered, and the core is otherwise as it was. -/
theorem State.goodFrame_answers {s t : State} (h : s.ready = true) {serve : State → Reply × State} {r : Reply}
    (hs : serve s = (r, t)) (hc : t.core = s.core) (code tag : Byte) :
    s.answers (s.goodFrame serve code tag) code r.status tag r.body := by
  rw [State.goodFrame_ready h, hs]
  have hl : t.link = s.link := link_of_core hc
  unfold State.answers State.linkAnswering
  rw [← hc]
  simp [State.core, hl]

/-- R157: a body of another length is MALFORMED. -/
theorem sized_ne {n : Nat} {body : Bytes} (serve : State → Reply × State) (s : State) (h : body.length ≠ n) :
    sized n body serve s = (refuse .malformed, s) := by simp [sized, h]
/-- R157: a body of the right length goes to the request's own checks. -/
theorem sized_eq {n : Nat} {body : Bytes} (serve : State → Reply × State) (s : State) (h : body.length = n) :
    sized n body serve s = serve s := by simp [sized, h]

/-- R171: a record that passes its check is read as it stands. -/
theorem State.checkRecord_of_passes {s : State} {n : Nat} (h : s.passes n = true) : s.checkRecord n = s := by
  simp only [State.passes, Bool.or_eq_true] at h
  exact State.checkRecord_passes s n h

/-- R171: where no check would find anything, every record passes. -/
theorem State.passes_of_clean {s : State} (h : s.clean = true) (n : Nat) : s.passes n = true := by
  simp only [State.clean, List.all_eq_true] at h
  by_cases hm : s.marked n = true
  · simp [State.passes, hm]
  · have hall : s.faults.errors.all (fun e => e.record != n) = true := by
      simp only [List.all_eq_true, bne_iff_ne, ne_eq]
      exact fun e he hn => hm (hn ▸ h e he)
    simp [State.passes, hall]
/-- R171: records read in turn where no check would find anything. -/
theorem State.checkRecords_of_clean {s : State} (h : s.clean = true) (ns : List Nat) : s.checkRecords ns = s := by
  unfold State.checkRecords
  induction ns with
  | nil => rfl
  | cons n ns ih => rw [List.foldl_cons, State.checkRecord_of_passes (State.passes_of_clean h n), ih]
/-- R171: what a command reads, where no check would find anything. -/
theorem State.reading_of_clean {s : State} (h : s.clean = true) (reads : State → List Nat) : s.reading reads = s :=
  State.checkRecords_of_clean h (reads s)
/-- R157: a request that its checks refuse reads nothing and changes nothing. -/
theorem judged_refused {refusal : State → Option Reply} {s : State} {x : Reply} (h : refusal s = some x)
    (reads : State → List Nat) (act : State → Reply × State) : judged refusal reads act s = (x, s) := by
  simp [judged, h]
/-- R157, R171: a request is refused, or carried out after its reads. -/
theorem judged_cases (refusal : State → Option Reply) (reads : State → List Nat) (act : State → Reply × State) (s : State) :
    (∃ x, refusal s = some x ∧ judged refusal reads act s = (x, s)) ∨
    (refusal s = none ∧ judged refusal reads act s = act (s.reading reads)) := by
  unfold judged
  cases h : refusal s with
  | some x => exact .inl ⟨x, rfl, rfl⟩
  | none => exact .inr ⟨rfl, rfl⟩
/-- R157: where no check of a record would find anything, a request that passes its checks is carried out. -/
theorem judged_of_clean {refusal : State → Option Reply} {s : State} (hc : s.clean = true) (h : refusal s = none)
    (reads : State → List Nat) (act : State → Reply × State) : judged refusal reads act s = act s := by
  simp [judged, h, State.reading_of_clean hc]
/-- R120: a request on a slot that the plan does not hold is NOT-FOUND. -/
theorem withSlot_none {p : Plan} {n : Nat} {s : State} (h : slotIn (s.plan p) n = none)
    (serve : Slot → State → Reply × State) : withSlot p n serve s = (refuse .notFound, s) := by simp [withSlot, h]
/-- R120: a request on a slot that the plan holds is given it. -/
theorem withSlot_some {p : Plan} {n : Nat} {s : State} {x : Slot} (h : slotIn (s.plan p) n = some x)
    (serve : Slot → State → Reply × State) : withSlot p n serve s = serve x s := by simp [withSlot, h]
/-- R157: a check that reads nothing and refuses ends the checks, and the state stands. -/
theorem State.runChecks_unread {s : State} {refusal : State → Option Reply} {x : Reply} (h : refusal s = some x)
    (cs : List Check) : s.runChecks (Check.unread refusal :: cs) = (some x, s) := by
  have ht : s.reading (Check.unread refusal).reads = s := rfl
  have hc : (Check.unread refusal).refusal s = some x := h
  simp only [State.runChecks, ht, hc]
/-- R157, R171: where no check of a record would find anything, the checks give the first refusal and change nothing. -/
theorem State.runChecks_of_clean {s : State} (h : s.clean = true) (cs : List Check) :
    s.runChecks cs = (refusalOf cs s, s) := by
  induction cs with
  | nil => rfl
  | cons c cs ih =>
    simp only [State.runChecks, State.reading_of_clean h, refusalOf, List.findSome?_cons]
    cases c.refusal s with
    | some x => rfl
    | none => exact ih
/-- R157, R171: what a request with such checks comes to: refused where one of them fails, else carried out after the reads of its
effect. -/
theorem checked_cases (cs : List Check) (reads : State → List Nat) (act : State → Reply × State) (s : State) :
    (∃ x t, s.runChecks cs = (some x, t) ∧ checked cs reads act s = (x, t)) ∨
    (∃ t, s.runChecks cs = (none, t) ∧ checked cs reads act s = act (t.reading reads)) := by
  unfold checked
  obtain ⟨o, t⟩ := s.runChecks cs
  cases o with
  | some x => exact .inl ⟨x, t, rfl, rfl⟩
  | none => exact .inr ⟨t, rfl, rfl⟩
/-- R157, R171: a request with such checks, where no check of a record would find anything. -/
theorem checked_of_clean {s : State} (h : s.clean = true) (cs : List Check) (reads : State → List Nat)
    (act : State → Reply × State) :
    checked cs reads act s = match refusalOf cs s with
      | some x => (x, s)
      | none => act s := by
  simp only [checked, State.runChecks_of_clean h]
  cases hr : refusalOf cs s with
  | some x => rfl
  | none => simp only [State.reading_of_clean h]
/-- R50, R77, R157, R171: a request on an item goes on where its number is configured, and else is NOT-FOUND; the number's record
has been checked either way. -/
theorem onNumber_cases (configured : State → Bool) (serve : State → Reply × State) (s : State) :
    (configured (s.checkRecord (settingsRecord 1)) = true ∧
      onNumber configured serve s = serve (s.checkRecord (settingsRecord 1))) ∨
    (configured (s.checkRecord (settingsRecord 1)) = false ∧
      onNumber configured serve s = (refuse .notFound, s.checkRecord (settingsRecord 1))) := by
  unfold onNumber
  cases h : configured (s.checkRecord (settingsRecord 1)) with
  | true => exact .inl ⟨rfl, by simp [h]⟩
  | false => exact .inr ⟨rfl, by simp [h]⟩
/-- R171: the number of an item, where the yard settings' record passes its check. -/
theorem onNumber_passes {s : State} (h : s.passes (settingsRecord 1) = true) (configured : State → Bool)
    (serve : State → Reply × State) :
    onNumber configured serve s = if configured s then serve s else (refuse .notFound, s) := by
  simp only [onNumber, State.checkRecord_of_passes h]
/-- R157: the first refusal of the checks of a slot that the plan holds. -/
theorem refusalOf_slot {p : Plan} {n : Nat} {s : State} {x : Slot} (h : slotIn (s.plan p) n = some x)
    (cs : List SlotCheck) :
    refusalOf (cs.map (fun c => c.inPlan p n)) s = cs.findSome? (fun c => c.refusal x s) := by
  induction cs with
  | nil => rfl
  | cons c cs ih =>
    simp only [List.map_cons, refusalOf, List.findSome?_cons, SlotCheck.inPlan, h, Option.elim_some] at ih ⊢
    cases c.refusal x s with
    | some y => rfl
    | none => exact ih
/-- R157, R171: a request on a slot, where no check of a record would find anything. -/
theorem checkedSlot_of_clean {p : Plan} {n : Nat} {s : State} {x : Slot} (hc : s.clean = true)
    (h : slotIn (s.plan p) n = some x) (cs : List SlotCheck) (reads : Slot → State → List Nat)
    (act : Slot → State → State) :
    checkedSlot p n cs reads act s = match cs.findSome? (fun c => c.refusal x s) with
      | some r => (r, s)
      | none => (done [], act x s) := by
  rw [checkedSlot, checked_of_clean hc, refusalOf_slot h]
  simp only [h, Option.elim_some]
/-- R171: the patrol, where no check would find anything. -/
theorem State.patrol_of_clean {s : State} (h : s.clean = true) : s.patrol = s := State.checkRecords_of_clean h _

/-! What the operations on the two links and the restored counts do. -/

/-- R139, R194: an undefined report never stands at the head of the inbound queue. -/
theorem inboundHead_defined (q : List InMsg) (m : InMsg) (ms : List InMsg) (h : inboundHead q = m :: ms) :
    m.undefinedEvent = false := by
  induction q with
  | nil => simp [inboundHead] at h
  | cons x xs ih =>
    simp only [inboundHead, List.dropWhile_cons] at h ih
    split at h
    · exact ih h
    · simp_all
/-- What is left of the inbound queue is its own tail: no report changes and none changes place. -/
theorem inboundHead_suffix (q : List InMsg) : inboundHead q <:+ q := List.dropWhile_suffix _
/-- A queue whose head is defined stands as it is. -/
theorem inboundHead_of_defined (m : InMsg) (ms : List InMsg) (h : m.undefinedEvent = false) :
    inboundHead (m :: ms) = m :: ms := by simp [inboundHead, h]
/-- What the inbound queue becomes. -/
@[simp] theorem State.setInbound_inbound (s : State) (q : List InMsg) :
    (s.setInbound q).bus.inbound = inboundHead q := rfl
/-- R87, R99, R174: a restored count that drops no point with a session ends nothing. -/
theorem State.endDropped_none (s : State) (n : Nat)
    (h : ∀ p ∈ s.pointNums, n < p → s.session p = none) : s.endDropped n = s := by
  unfold State.endDropped
  rw [if_neg]
  simp only [List.any_filter, Bool.not_eq_true, List.any_eq_false]
  intro p hp
  by_cases hn : n < p <;> simp_all
/-- R151, R155: the link goes on with the service it is given. -/
theorem State.linkNext_service (s : State) (n : LinkService) : (s.linkNext n).link.service = n := rfl
/-- R137, R150: after arbitration is lost nothing is in flight. -/
theorem State.loseTo_inFlight (s : State) (d : Byte) : (s.loseTo d).bus.inFlight = none := by
  have h : s.bus.unsend.inFlight = none := by
    unfold Bus.unsend
    split
    · assumption
    · split <;> rfl
  simp only [State.loseTo]
  split <;> exact h
/-- R179: the entry to CENSUS or CONFIGURE, where no check of a record finds anything once the mode has changed. -/
theorem State.enterCensusOr_of_clean {s : State} {m : PartMode} (h : (s.setMode m).clean = true) :
    s.enterCensusOr m = (State.reformBudget s (s.setMode m)).settleEntry m := by
  rw [State.enterCensusOr, State.reading_of_clean h]

end Sys2Proof.Machine
end

