-- ==== Sys2Proof/Tests/Slice0.lean ====
section
/-! SUPPORT. Tests: what WellFormed refuses, values worked out by hand from the spec, and for each statement with hypotheses
a concrete state and operands that meet them, clause by clause. -/

namespace Sys2Proof.Tests

open Sys2Proof Sys2Proof.Machine

set_option Elab.async false

/-- Bytes written as numbers. -/
def bytes (l : List Nat) : Bytes := l.map (BitVec.ofNat 8)

/-! ### WellFormed -/

theorem test_wellFormed_refuses_long_body : (Instr.setBudget 0 (List.replicate 75 0)).wellFormed = false := by decide
theorem test_wellFormed_takes_longest_body : (Instr.unknownRequest 7 0 (List.replicate 74 0)).wellFormed = true := by decide
theorem test_wellFormed_refuses_long_message : (Instr.reportReceived (List.replicate 18 0)).wellFormed = false := by decide
theorem test_wellFormed_refuses_record_beyond_banks :
    (Instr.minuteEvent [{ record := 1152, kind := .single }]).wellFormed = false := by decide
theorem test_wellFormed_refuses_bays :
    (Instr.bayMovementExpiry 0).wellFormed = false ∧ (Instr.bayMovementExpiry 5).wellFormed = false := by decide
theorem test_wellFormed_refuses_wash_lanes :
    (Instr.washMovementExpiry 0).wellFormed = false ∧ (Instr.washMovementExpiry 3).wellFormed = false := by decide
theorem test_wellFormed_refuses_vehicle : (Instr.laneMovementExpiry 320).wellFormed = false := by decide
theorem test_wellFormed_refuses_slots :
    (Instr.callTimeout 0).wellFormed = false ∧ (Instr.graceExpiry 321).wellFormed = false := by decide

/-! ### Values worked out by hand -/

/-- R189's polynomial and start value give this check value for the nine digits (R189 states it). -/
theorem test_crc_check_value : crc16 (bytes [0x31, 0x32, 0x33, 0x34, 0x35, 0x36, 0x37, 0x38, 0x39]) = 0x29B1#16 := by decide +kernel
/-- R134: the bytes of a message with its check byte add up to 0 modulo 256. -/
theorem test_check_byte : checkByte (bytes [2, 6, 0x13, 2, 1, 2]) = 0xE0#8 := by decide
/-- The rows of the table give no bits. -/
theorem test_no_word_spells_a_command : decodeTableWord 8 1 = none := rfl

/-! ### A small yard -/

/-- A battery bus with a day-old wash. -/
def coach (fleet tag : Nat) (state : VehState) (loc : Loc) : Vehicle :=
  { Vehicle.blank with
    fleet := fleet, tag := some tag, drive := .battery, capacity := 3000, soe := 1000, acceptance := 100,
    washInterval := 3, lastWash := some 9, state := state, loc := loc }

/-- A slot of every class and drive. -/
def duty (num release : Nat) (state : SlotState) (assigned : Option (Nat × Nat)) (call : Option Call) : Slot :=
  { num := num, release := release, duty := 500, bodies := 15, drives := 3, requirement := 500, gate := 3, state := state,
    assigned := assigned, last := none, substituted := false, uncalled := false, unconfirmed := false, call := call,
    record := 320 + num }

/-- Two FLOW lanes of depth 3 and 2, a DEAD lane of depth 3, one cabinet with two points, two bays, two wash lanes. -/
def plan : Geometry :=
  { Geometry.default with
    numLanes := 3
    lanes := ⟨[(1, { kind := .flow, depth := 3, cls := .standard, node := 4, index := 0, points := ⟨[(1, 1), (2, 2)]⟩ }),
      (2, { kind := .dead, depth := 3, cls := .long, node := 4, index := 1, points := .empty }),
      (3, { kind := .flow, depth := 2, cls := .long, node := 4, index := 2, points := .empty })]⟩
    numPoints := 2
    points := ⟨[(1, { cabinet := 1, lane := 1, pos := 1, rating := 150, pmin := 10 }),
      (2, { cabinet := 1, lane := 1, pos := 2, rating := 150, pmin := 10 })]⟩
    numCabinets := 1, cabinets := ⟨[(1, 11)]⟩
    numBays := 2, bays := ⟨[(1, { kind := .fuel, node := 5 }), (2, { kind := .service, node := 5 })]⟩
    numWashes := 2, washes := ⟨[(1, 6), (2, 6)]⟩
    gates := ⟨[(1, { dir := .inward, node := 21 }), (2, { dir := .both, node := 22 }), (3, { dir := .outward, node := 23 })]⟩
    numSpots := 2 }

/-- Vehicle 6 was called from lane 2 position 3 and is still there. -/
def callRecord : Call := { time := 14999, deadline := 15007, place := .lane 2 3, node := 4, cleared := false }

/-- RUNNING at 10:00 on day 10: vehicle 0 PARKED in lane 1, 1 OUT, 2 UNKNOWN, 3 IN-BAY, 4 WASHING, 5 ON-PAD, 6 DEPARTING
from lane 2, 7 IN-OVERFLOW. -/
def yard : State :=
  { State.reset with
    mode := .running
    startup := false
    clock := { isSet := true, day := 10, minute := 600, seconds := 0, minuteOwed := false }
    settings := { beh := .default, geo := plan }
    store := { valid := true, copy := .default, snapshot := none }
    fleet := {
      vehicles := ⟨[(0, { coach 100 200 .parked (.lane 1 1) with assignment := some 2, key := 650 }),
        (1, { coach 101 201 .out .absent with drive := .diesel, capacity := 0, soe := 0, acceptance := 0 }),
        (2, coach 102 202 .unknown .absent), (3, coach 103 203 .inBay (.bay 1)), (4, coach 104 204 .washing (.wash 1)),
        (5, coach 105 205 .onPad (.pad 1)),
        (6, { coach 106 206 .departing (.lane 2 3) with assignment := some 3, key := 640 }),
        (7, coach 107 207 .inOverflow (.overflow 1))]⟩
      byFleet := ⟨[(100, 0), (101, 1), (102, 2), (103, 3), (104, 4), (105, 5), (106, 6), (107, 7)]⟩
      byTag := ⟨[(200, 0), (201, 1), (202, 2), (203, 3), (204, 4), (205, 5), (206, 6), (207, 7)]⟩ }
    service := { Service.blank with
      pad := ⟨[(1, { vehicle := 5, arrival := 14990 })]⟩
      bays := ⟨[(1, { Bay.blank with state := .serving, occupant := some 3 })]⟩
      washes := ⟨[(1, { Wash.blank with state := .washing, occupant := some 4 })]⟩ }
    yard := {
      lanes := ⟨[
        (1, { Lane.blank with state := .opened, entries := [{ vehicle := 0, pos := 1, mark := .settled }], image := 1 }),
        (2, { Lane.blank with state := .opened, entries := [{ vehicle := 6, pos := 3, mark := .leavingCall }], image := 4 }),
        (3, { Lane.blank with state := .opened })]⟩
      spots := ⟨[(1, .held 7)]⟩
      stranded := [] }
    roster := {
      active := [duty 3 640 .called (some (6, 106)) (some callRecord), duty 2 650 .assigned (some (0, 100)) none,
        duty 1 700 .opened none none]
      staged := [duty 1 600 .opened none none, duty 2 650 .assigned (some (0, 100)) none]
      ready := false }
    bus := { Bus.blank with freeSeen := true, nodes := ⟨[(4, .blank), (11, .blank), (21, .blank)]⟩ }
    notices := .blank
    faults := .blank }

/-- The yard with a message at the head of its inbound queue. -/
def heard (source kind : Nat) (payload : List Nat) (s : State) : State :=
  { s with bus := { s.bus with
    inbound := [{ dest := 2, source := BitVec.ofNat 8 source, kind := BitVec.ofNat 8 kind, payload := bytes payload }] } }
/-- A BAY REPORT. -/
def bayReport (bay event tag : Nat) (s : State) : State := heard 5 0x12 [bay, event, 0, 0, 0, tag] s
/-- A WASH REPORT. -/
def washReport (lane event : Nat) (s : State) : State := heard 6 0x13 [lane, event] s
/-- The message of that report. -/
def report (source kind : Nat) (payload : List Nat) : InMsg :=
  { dest := 2, source := BitVec.ofNat 8 source, kind := BitVec.ofNat 8 kind, payload := bytes payload }
/-- A selector by vehicle index. -/
def byIndex (v : Nat) : List Nat := [0, 0, 0, v / 256, v % 256]

/-! ### The worked case of spec/05 (the budget falls at minute 600) -/

def wVeh (fleet cap soe acc key : Nat) (asg : Option Nat) (loc : Loc) (st : VehState) : Vehicle :=
    { Vehicle.blank with fleet := fleet, drive := .battery, capacity := cap, soe := soe, acceptance := acc, key := key, assignment := asg, loc := loc, state := st }
def wSlot (n rel req : Nat) (v : Nat) (f: Nat): Slot := { num := n, release := rel, duty := 1, bodies := 15#8, drives := 3#8, requirement := req, gate := 3, state := .assigned, assigned := some (v,f), last := none, substituted := false, uncalled := false, unconfirmed := false, call := none, record := 320+n }
def wSess (v req tgt dl g : Nat) : Session := { vehicle := v, startSoe := 0, base := 0, delivered := 0, requirement := req, target := tgt, deadline := dl, opened := 0, grant := g, grade := some .onTrack, capped := false, short := false, incompat := false, n := 0, m := 0, c := 0, q := 0 }
def wPt (g : Nat) (x : Session) : Point := { Point.blank with cond := some .active, held := some g, issued := some g, session := some x }
def wGeo : Geometry := { Geometry.default with numLanes := 12, numPoints := 12, numCabinets := 1, cabinets := ⟨[(1,40)]⟩, points := ⟨[(2,⟨1,1,1,120,20⟩),(4,⟨1,2,1,150,10⟩),(9,⟨1,3,1,150,10⟩),(11,⟨1,4,1,100,10⟩)]⟩, meter := 50, energyAddr := 10 }
def worked5 : State := { State.reset with mode := .running, startup := false, clock := { isSet := true, day := 212, minute := 600, seconds := 0, minuteOwed := false }, settings := { Settings.default with geo := wGeo }, bus := { Bus.blank with inbound := [{ dest := 10#8, source := 50#8, kind := 0x16#8, payload := [1#8, 44#8] }], nodes := ⟨[(40,{ live := .live, heard := true, poll := false }),(50,.blank)]⟩ }, fleet := { vehicles := ⟨[(1, wVeh 1 3000 2000 200 720 (some 1) (.lane 1 1) .parked),(2, wVeh 2 4000 800 250 720 (some 2) (.lane 3 1) .parked),(3, wVeh 3 4500 1000 300 780 (some 3) (.lane 4 1) .parked),(4, wVeh 4 3500 400 150 1020 (some 4) (.lane 2 1) .parked)]⟩, byFleet := .empty, byTag := .empty }, roster := { active := [wSlot 1 720 2700 1 1, wSlot 2 720 3000 2 2, wSlot 3 780 3800 3 3, wSlot 4 1020 2000 4 4], staged := [], ready := false }, energy := { points := ⟨[(2, wPt 60 (wSess 1 2700 2900 700 60)),(4, wPt 50 (wSess 4 2000 2200 1000 50)),(9, wPt 150 (wSess 2 3000 3200 700 150)),(11, wPt 100 (wSess 3 3800 4000 760 100))]⟩, budget := { fresh := true, last := some (360,.meter), deadline := some (212*1440+601) } }, notices := .blank, faults := .blank }
/-- The worked case's grants under the new limit, points 2, 4, 9 and 11. -/
theorem test_worked_allocation :
    (match exec .siteLimit worked5 with
      | .next t => [2, 4, 9, 11].map (fun p => (t.session p).map (·.grant))
      | _ => []) = [some 56, some 0, some 144, some 100] := by decide +kernel

/-! ### The link: what meets the hypotheses of the statements about it -/

/-- The yard with the link in that state. -/
def linked (x : LinkService) : State := { yard with link := { yard.link with service := x } }
/-- A response on its way. -/
def onItsWay : Response := { code := 4, status := .done, tag := 9, body := [] }
/-- A BUSY answer. -/
def busy : Response := { onItsWay with status := .busy, tag := 10 }
/-- The response to RESTART is on its way, from a part whose store is valid, and from one whose store is not. -/
def restarting (valid : Bool) : State :=
  { linked (.inService onItsWay none) with
    link := { yard.link with service := .inService onItsWay none, restarting := true }
    store := { yard.store with valid := valid } }

theorem witness_StepRunsFrontCommand : ∃ t, exec .busSeenFree yard = .next t := ⟨_, rfl⟩
theorem witness_ResetLeavesBlocksEmpty :
    (restarting true).link.restarting = true ∧ (∃ r b, (restarting true).link.service = .inService r b) ∧
    ((.powerOnReset : Instr) = .powerOnReset) ∧ ((.lineReset : Instr) = .lineReset) := by
  and_intros <;> first | decide +kernel | rfl | exact ⟨_, _, rfl⟩
theorem witness_ResetKeepsOrEmptiesCapture :
    (restarting true).store.valid = true ∧ (restarting false).store.valid = false ∧
    (∃ r b, (restarting false).link.service = .inService r b) ∧ (Instr.lineReset ≠ .powerOnReset) ∧
    (restarting false).faults.capture = none ∧
    (∃ x, ((restarting false).report .q1 0).faults.capture = some x ∧ 1 ≤ x.code.cls) ∧
    (∃ x, ((restarting false).report .g1 1).faults.capture = some x ∧ x.code.cls = 0) := by
  and_intros <;> first | decide +kernel | rfl | exact ⟨_, _, rfl⟩ | exact ⟨_, rfl, by decide⟩
theorem witness_StartupTakesNothing : State.reset.startup = true := rfl
theorem witness_ServiceAndResponses :
    yard.startup = false ∧ (linked (.inService onItsWay none)).link.service = .inService onItsWay none ∧
    (∃ r b, (linked (.inService onItsWay (some busy))).link.service = .inService r (some b)) ∧
    (∃ b, (linked (.sendingBusy busy)).link.service = .sendingBusy b) ∧ yard.link.restarting = false ∧
    yard.link.service = .idle ∧ yard.passes (settingsRecord 0) = true := by
  and_intros <;> first | decide +kernel | rfl | exact ⟨_, _, rfl⟩ | exact ⟨_, rfl⟩
theorem witness_FrameCharactersAreTheRequest :
    (List.replicate 74 (0 : Byte)).length ≤ 74 ∧ yard.startup = false ∧ yard.link.rx = .hunting := by
  and_intros <;> first | decide +kernel | rfl
theorem witness_FrameErrorsAreDiscarded :
    let at' := fun (r : Receiver) => { yard with link := { yard.link with rx := r } }
    yard.startup = false ∧ yard.link.rx = .hunting ∧ ¬ ((0xA4#8 : Byte) = 0xA5#8) ∧
    (at' .length).link.rx ≠ .hunting ∧ (at' .length).link.rx = .length ∧ (1#8).toNat < 2 ∧ 76 < (77#8).toNat ∧
    (at' (.collecting 2 (bytes [0, 0, 0]))).link.rx = .collecting 2 (bytes [0, 0, 0]) ∧ (bytes [0, 0, 0]).length = 2 + 1 ∧
    (5#8 :: bytes [0, 0, 0]).reverse.drop 2 ≠
      be16 (crc16 (BitVec.ofNat 8 2 :: (5#8 :: bytes [0, 0, 0]).reverse.take 2)).toNat := by
  and_intros <;> first | decide +kernel | rfl
theorem witness_RequestsRefusedUnread :
    yard.ready = true ∧ (∀ c ∈ [0x07, 0x1F], 0x07 ≤ c ∧ c ≤ 0x1F) ∧ (∀ c ∈ [0x29, 0x3F], 0x29 ≤ c ∧ c ≤ 0x3F) ∧
    (∀ c ∈ [0x45, 0x5F], 0x45 ≤ c ∧ c ≤ 0x5F) ∧ (∀ c ∈ [0x6B, 0x7F], 0x6B ≤ c ∧ c ≤ 0x7F) ∧
    (∀ c ∈ [0x92, 0xFF], 0x92 ≤ c) ∧ (bytes []).length ≠ 18 ∧ (bytes [1]).length ≠ 0 ∧
    (bytes [1, 1, 1]).length ≠ 2 + 3 * at8 (bytes [1, 1, 1]) 1 := by
  and_intros <;> first | decide +kernel | rfl

/-! ### Fleet -/

/-- A body of ENROL VEHICLE. -/
def enrol (fleet tag cls drive capacity : Nat) : Bytes :=
  bytes [0, fleet, 0, 0, 0, tag, cls, drive, capacity / 256, capacity % 256, 0, 50, 0, 10, 61, 1, 0, 9]
/-- The yard with every vehicle index taken. -/
def full : State :=
  { yard with fleet := { vehicles := ⟨(List.range 320).map (fun v => (v, Vehicle.blank))⟩, byFleet := .empty, byTag := .empty } }

theorem witness_EnrolCreatesOrRefuses_creates :
    let body := enrol 99 99 3 1 100
    yard.ready = true ∧ body.length = 18 ∧ at16 body 0 ≠ 0 ∧ bodyOf (at8 body 6) = some .artic ∧
    driveOf (at8 body 7) = some .battery ∧ at8 body 15 ≤ 1 ∧
    (100 ≤ at16 body 8 ∧ at16 body 8 ≤ 9999 ∧ 10 ≤ at16 body 12 ∧ at16 body 12 ≤ 600) ∧
    yard.byFleet (at16 body 0) = none ∧ yard.byTag (at32 body 2) = none ∧ 8 < 320 ∧ yard.vehicle? 8 = none ∧
    (∀ w, w < 8 → (yard.vehicle? w).isSome = true) := by
  and_intros <;> first | decide +kernel | rfl
theorem witness_EnrolCreatesOrRefuses_refuses :
    (¬ (at16 (enrol 0 99 3 1 100) 0 ≠ 0)) ∧ (¬ (at8 (enrol 99 99 4 1 100) 6 < 4)) ∧ (¬ (at8 (enrol 99 99 3 2 100) 7 < 2)) ∧
    (¬ (100 ≤ at16 (enrol 99 99 3 1 99) 8)) ∧ (¬ (at16 (enrol 99 99 3 1 10000) 8 ≤ 9999)) ∧
    yard.byFleet (at16 (enrol 100 99 3 1 100) 0) ≠ none ∧ yard.byTag (at32 (enrol 99 200 3 1 100) 2) ≠ none ∧
    full.ready = true ∧ full.byFleet (at16 (enrol 99 99 3 1 100) 0) = none ∧ (∀ v, v < 320 → (full.vehicle? v).isSome = true) := by
  and_intros <;> first | decide +kernel | rfl

/-- A body of AMEND VEHICLE: the mask, then fleet number, tag, class, drive, hold and the rest. -/
def amend (v mask fleet tag cls drive : Nat) : Bytes :=
  bytes (byIndex v ++ [mask / 256, mask % 256, 0, fleet, 0, 0, 0, tag, cls, drive, 0, 100, 0, 80, 0, 10, 5, 1, 0, 9, 0, 15])

theorem witness_AmendChangesNamedFields :
    let body := amend 2 0x7FF 98 98 3 1
    yard.ready = true ∧ body.length = 27 ∧ yard.select body = .ok 2 ∧ (yard.vehicle? 2).isSome = true ∧ yard.passes 2 = true ∧
    yard.damaged 2 = false ∧ at16 body 5 ≤ 0x7FF ∧ at16 body 7 ≠ 0 ∧ at8 body 13 < 4 ∧ at8 body 14 < 2 ∧ at8 body 22 ≤ 1 ∧
    (100 ≤ at16 body 15 ∧ at16 body 15 ≤ 9999 ∧ 10 ≤ at16 body 19 ∧ at16 body 19 ≤ 600) ∧
    (yard.vehicle 2).state = .unknown ∧ yard.sessionPoint 2 = none ∧ yard.byFleet 98 = none ∧ yard.byTag 98 = none ∧
    (yard.vehicle 2).assignment = none ∧
    yard.clean = true := by
  and_intros <;> first | decide +kernel | rfl

/-- The yard with that record marked damaged. -/
def damaged (record : Nat) : State := { yard with faults := { yard.faults with marks := [record] } }
theorem witness_RewriteClearsDamage :
    let body := amend 0 0x7FF 100 200 3 1
    (damaged 0).ready = true ∧ body.length = 27 ∧ (damaged 0).select body = .ok 0 ∧ ((damaged 0).vehicle? 0).isSome = true ∧
    (damaged 0).damaged 0 = true ∧ at16 body 5 = 0x7FF ∧ at16 (amend 0 0x7FE 100 200 3 1) 5 ≠ 0x7FF ∧ at16 body 7 ≠ 0 ∧
    at8 body 13 < 4 ∧ at8 body 14 < 2 ∧ at8 body 22 ≤ 1 ∧
    (100 ≤ at16 body 15 ∧ at16 body 15 ≤ 9999 ∧ 10 ≤ at16 body 19 ∧ at16 body 19 ≤ 600) ∧
    ((damaged 0).vehicle 0).state ≠ .departing ∧ (damaged 0).byFleet (at16 body 7) = some 0 ∧
    (damaged 0).byTag (at32 body 9) = some 0 ∧ ((damaged 0).vehicle 0).assignment = some 2 ∧
    (∃ x, (damaged 0).slot 2 = some x ∧ accepts x.bodies x.drives .artic .battery = true) ∧
    (damaged 0).clean = true := by
  and_intros <;> first | decide +kernel | rfl | exact ⟨_, rfl, by decide⟩

theorem witness_RecordRetiredEnergySet_retire :
    yard.ready = true ∧ (bytes (byIndex 2)).length = 5 ∧ yard.select (bytes (byIndex 2)) = .ok 2 ∧
    (yard.vehicle? 2).isSome = true ∧ yard.passes 2 = true ∧ (yard.vehicle 2).state = .unknown ∧
    yard.select (bytes (byIndex 1)) = .ok 1 ∧ (yard.vehicle 1).state = .out ∧ yard.select (bytes (byIndex 0)) = .ok 0 ∧
    (yard.vehicle 0).state ≠ .out ∧ (yard.vehicle 0).state ≠ .unknown ∧
    ((yard.place 0 .out .absent).vehicle 0).assignment = some 2 ∧ ((yard.place 0 .out .absent).vehicle 0).state = .out ∧
    yard.clean = true := by
  and_intros <;> first | decide +kernel | rfl
theorem witness_SelectorsResolveAndRead :
    yard.ready = true ∧ 320 ≤ at32 (bytes (byIndex 320)) 1 ∧ at32 (bytes (byIndex 319)) 1 < 320 ∧ yard.vehicle? 319 = none ∧
    (yard.vehicle? (at32 (bytes (byIndex 0)) 1)).isSome = true ∧ yard.byFleet (at32 (bytes [1, 0, 0, 0, 99]) 1) = none ∧
    yard.byFleet (at32 (bytes [1, 0, 0, 0, 100]) 1) = some 0 ∧ at32 (bytes [2, 0, 0, 0, 0]) 1 = 0 ∧
    yard.byTag (at32 (bytes [2, 0, 0, 0, 199]) 1) = none ∧ yard.byTag (at32 (bytes [2, 0, 0, 0, 200]) 1) = some 0 ∧
    2 < at8 (bytes [3, 0, 0, 0, 0]) 0 ∧ yard.select (bytes [3, 0, 0, 0, 0]) = .error .malformed ∧
    yard.select (bytes (byIndex 0)) = .ok 0 ∧ yard.passes 0 = true ∧ yard.damaged 0 = false ∧ (damaged 0).passes 0 = true ∧
    (damaged 0).damaged 0 = true ∧ (damaged 0).select (bytes (byIndex 0)) = .ok 0 := by
  and_intros <;> first | decide +kernel | rfl
theorem witness_HoldSetsAndWithdraws :
    let gone := yard.place 6 .departing .apron
    let body := bytes (byIndex 6 ++ [1])
    yard.ready = true ∧ body.length = 6 ∧ gone.select body = .ok 6 ∧ (gone.vehicle 6).state = .departing ∧
    (gone.vehicle 6).loc = .apron ∧ gone.passes 6 = true ∧ yard.select (bytes (byIndex 0 ++ [1])) = .ok 0 ∧
    (yard.vehicle 0).state ≠ .departing ∧ at8 (bytes (byIndex 6 ++ [0])) 5 = 0 ∧ (yard.vehicle 6).loc ≠ .apron ∧
    yard.select body = .ok 6 ∧ (yard.vehicle? 6).isSome = true ∧ yard.passes 6 = true ∧ at8 body 5 ≠ 0 ∧
    (yard.vehicle 6).state = .departing ∧ (yard.vehicle 6).assignment = some 3 ∧
    yard.slot 3 = some (duty 3 640 .called (some (6, 106)) (some callRecord)) ∧ callRecord.place = .lane 2 3 ∧
    (yard.vehicle 6).loc = .lane 2 3 ∧
    yard.clean = true := by
  and_intros <;> first | decide +kernel | rfl
theorem witness_RecordRetiredEnergySet_energy :
    let body := fun v => bytes (byIndex v ++ [1, 0])
    yard.ready = true ∧ (body 0).length = 7 ∧ yard.select (body 0) = .ok 0 ∧ (yard.vehicle? 0).isSome = true ∧
    yard.passes 0 = true ∧ (damaged 0).damaged 0 = true ∧ (damaged 0).passes 0 = true ∧ yard.damaged 0 = false ∧
    yard.select (body 1) = .ok 1 ∧ (yard.vehicle 1).drive = .diesel ∧ (yard.vehicle 0).drive = .battery ∧
    yard.sessionPoint 0 = none ∧ yard.pointNums.find? (fun q => yard.parkedAt q == some 0) = some 1 ∧
    (yard.point 1).state = .offline ∧ (yard.point 1).session = none ∧
    yard.clean = true := by
  and_intros <;> first | decide +kernel | rfl

/-! ### The service line -/

/-- The yard with bay 1 changed, for a report on it. -/
def atBay (f : Bay → Bay) (s : State) : State := s.updBay 1 f
/-- The yard with wash lane 1 changed. -/
def atWash (f : Wash → Wash) (s : State) : State := s.updWash 1 f
/-- A TO-WASH entry of that vehicle. -/
def queued (v : Nat) (directed : Option Nat) : WashEntry := { vehicle := v, heavy := false, directed := directed }

theorem witness_BayArrivedFaultRestored_arrived :
    let s := bayReport 1 1 203 (yard.place 3 .toBay (.bay 1))
    let awaiting := atBay (fun r => { r with state := .awaiting, deadline := some 15010 }) s
    let finished := atBay (fun r => { r with state := .finished }) s
    s.bus.inbound = [report 5 0x12 [1, 1, 0, 0, 0, 203]] ∧ (report 5 0x12 [1, 1, 0, 0, 0, 203]).isBay 1 1 ∧ 1 ≤ s.geo.numBays ∧
    s.byTag 203 = some 3 ∧ (awaiting.bay 1).occupant = some 3 ∧ (awaiting.bay 1).state = .awaiting ∧
    (s.vehicle? 3).isSome = true ∧ (s.bay 1).state = .serving ∧ (finished.bay 1).state = .finished ∧
    (s.bay 2).occupant = none ∧ s.byTag 201 ≠ (s.bay 1).occupant ∧ 2 ≤ s.geo.numBays ∧
    s.clean = true := by
  and_intros <;> first | decide +kernel | rfl

theorem witness_BayDoneServed_washed :
    let s := bayReport 1 2 203 (yard.updVehicle 3 (fun r => { r with lastWash := some 7, drive := .diesel }))
    s.bus.inbound = [report 5 0x12 [1, 2, 0, 0, 0, 203]] ∧ (report 5 0x12 [1, 2, 0, 0, 0, 203]).isBay 2 1 ∧ 1 ≤ s.geo.numBays ∧
    s.mode = .running ∧ (s.bay 1).state = .serving ∧ (s.bay 1).occupant = some 3 ∧ (s.vehicle? 3).isSome = true ∧
    (s.vehicle 3).lastWash = some 7 ∧ 7 + (s.vehicle 3).washInterval ≤ s.clock.day ∧
    s.clock.minute + s.beh.washSkip ≤ (s.vehicle 3).key ∧ (s.vehicle 3).drive = .diesel ∧ s.washTakes 1 = true ∧
    (s.wash 1).queue = [] ∧ (s.wash 2).queue = [] ∧ (s.wash 2).state = .idle ∧
    ({ s with mode := .safe }).mode ≠ .running ∧ (s.vehicle 3).state = .inBay ∧ (s.bay 2).state ≠ .serving ∧
    s.clean = true := by
  and_intros <;> first | decide +kernel | rfl

theorem witness_BayClearFreesBay :
    let s := bayReport 1 3 203 yard
    let done := fun v onward => bayReport 1 3 203 (atBay (fun r =>
      { r with state := .finished, occupant := v, onward := onward, closing := true }) yard)
    s.bus.inbound = [report 5 0x12 [1, 3, 0, 0, 0, 203]] ∧ (report 5 0x12 [1, 3, 0, 0, 0, 203]).isBay 3 1 ∧
    (s.bay 2).state = .free ∧ (report 5 0x12 [2, 3, 0, 0, 0, 203]).isBay 3 2 ∧ ((done none false).bay 1).closing = true ∧
    ((done none false).bay 1).state = .finished ∧ ((done none false).bay 1).occupant = none ∧
    ((done (some 3) true).bay 1).onward = true ∧ ((done (some 3) false).bay 1).occupant = some 3 ∧
    (((done (some 3) false).place 3 .stranded (.bay 1)).vehicle 3).state = .stranded ∧
    ({ s with mode := .census }).mode ≠ .running ∧ ({ s with service := { s.service with pad := .empty } }).service.pad = .empty ∧
    (s.bay 1).state = .serving ∧ (s.bay 1).occupant = some 3 ∧ (s.vehicle? 3).isSome = true ∧
    s.clean = true := by
  and_intros <;> first | decide +kernel | rfl

/-- Two buses wait on the pad for the bay that a finished vehicle leaves. -/
def turn (passOver : Nat) : State :=
  bayReport 1 3 203 (atBay (fun r => { r with state := .finished, onward := true })
    { (yard.place 2 .onPad (.pad 2)).updVehicle 5 (fun r => { r with passOver := passOver }) with
      service := { yard.service with
        pad := ⟨[(1, { vehicle := 5, arrival := 14990 }), (2, { vehicle := 2, arrival := 14985 })]⟩ } })
/-- The earlier arrival wins by arrival time, the other once it has been passed over four times. -/
theorem witness_FreedBayTurnsAndAdmits_winner :
    (turn 0).bus.inbound = [report 5 0x12 [1, 3, 0, 0, 0, 203]] ∧ (turn 0).mode = .running ∧
    ((turn 0).bay 1).state = .finished ∧ ((turn 0).bay 1).onward = true ∧ ((turn 0).bay 1).closing = false ∧
    (turn 0).service.gate1 = [] ∧ (turn 0).service.gate2 = [] ∧ (turn 0).service.pad.wf = true ∧
    ((turn 0).vehicle? 5).isSome = true ∧ ((turn 0).vehicle 5).loc = .pad 1 ∧ ((turn 0).vehicle? 2).isSome = true ∧
    ((turn 0).vehicle 2).loc = .pad 2 ∧ (turn 0).pad 2 = some { vehicle := 2, arrival := 14985 } ∧
    ((turn 0).geo.bay 1).kind = .fuel ∧ (turn 0).turnKey 2 = (turn 0).turnKey 5 ∧ 14985 < 14990 ∧
    (¬ (turn 0).beh.passLimit ≤ ((turn 0).vehicle 2).passOver) ∧ (¬ (turn 0).beh.passLimit ≤ ((turn 0).vehicle 5).passOver) ∧
    (turn 4).beh.passLimit ≤ ((turn 4).vehicle 5).passOver ∧ (¬ (turn 4).beh.passLimit ≤ ((turn 4).vehicle 2).passOver) ∧
    (turn 4).pad 1 = some { vehicle := 5, arrival := 14990 } ∧
    (turn 0).clean = true := by
  and_intros <;> first | decide +kernel | rfl

theorem witness_BayArrivedFaultRestored_fault :
    let s := fun (e : Nat) (b : Bay) => bayReport 1 e 203 (yard.setBay 1 b)
    let faulted := { Bay.blank with state := .faulted }
    (s 4 Bay.blank).bus.inbound = [report 5 0x12 [1, 4, 0, 0, 0, 203]] ∧ (report 5 0x12 [1, 4, 0, 0, 0, 203]).isBay 4 1 ∧
    ((s 4 Bay.blank).bay 1).state = .free ∧ ((s 4 { Bay.blank with state := .closed }).bay 1).state = .closed ∧
    ((s 4 faulted).bay 1).state = .faulted ∧ (report 5 0x12 [1, 5, 0, 0, 0, 203]).isBay 5 1 ∧
    ((s 5 Bay.blank).bay 1).state ≠ .faulted ∧ ((s 5 { faulted with occupant := some 3 }).bay 1).occupant = some 3 ∧
    (((s 5 { faulted with occupant := some 3 }).place 3 .toBay (.bay 1)).vehicle 3).state = .toBay ∧
    ((s 5 { faulted with occupant := some 3 }).vehicle 3).state ≠ .toBay ∧
    ((s 5 { faulted with closing := true }).bay 1).occupant = none ∧ ((s 5 { faulted with closing := true }).bay 1).closing = true ∧
    (s 4 faulted).clean = true := by
  and_intros <;> first | decide +kernel | rfl

/-- With lane 3 and lane 1 closed and the vehicle's class kept out of lane 2, only a spot is left. -/
def crowded (spots : List (Nat × Spot)) : State :=
  { yard with yard := { yard.yard with
    lanes := ⟨yard.yard.lanes.rows.map (fun r => (r.1, { r.2 with state := LaneState.closed }))⟩, spots := ⟨spots⟩ } }
theorem witness_WashDoneCreditsWash :
    let s := fun (x : State) => washReport 1 2 x
    (s yard).bus.inbound = [report 6 0x13 [1, 2]] ∧ (report 6 0x13 [1, 2]).isWash 2 1 ∧ 1 ≤ (s yard).geo.numWashes ∧
    ((s yard).wash 2).state ≠ .washing ∧ ((s yard).wash 1).state = .washing ∧ ((s yard).wash 1).occupant = some 4 ∧
    ((s yard).vehicle? 4).isSome = true ∧ ((s yard).vehicle 4).state = .washing ∧ (s yard).mode = .running ∧
    ((s yard).wash 1).queue = [] ∧ (s (crowded [(1, .held 7), (2, .held 2)])).chooseBerth 4 = .nowhere ∧
    (s (crowded [(1, .held 7)])).chooseBerth 4 = .spot 2 ∧ (s yard).chooseBerth 4 = .lane 1 false ∧
    ({ s yard with mode := .safe }).mode ≠ .running ∧
    (s yard).clean = true := by
  and_intros <;> first | decide +kernel | rfl

theorem witness_WashEnteredClearFaultRestored :
    let s := fun (e : Nat) (w : Wash) => washReport 1 e (yard.setWash 1 w)
    let idle := { Wash.blank with queue := [queued 2 (some 15005)] }
    let busy := { Wash.blank with state := .washing, occupant := some 4 }
    (s 1 idle).bus.inbound = [report 6 0x13 [1, 1]] ∧ (report 6 0x13 [1, 1]).isWash 1 1 ∧ 1 ≤ (s 1 idle).geo.numWashes ∧
    ((s 1 idle).wash 1).state = .idle ∧ ((s 1 idle).wash 1).queue = queued 2 (some 15005) :: [] ∧
    ((s 1 idle).vehicle? 2).isSome = true ∧ ((s 1 { idle with queue := [] }).wash 1).queue = [] ∧
    (∃ e q, ((s 1 { idle with queue := [queued 2 none] }).wash 1).queue = e :: q ∧ e.directed = none) ∧
    (report 6 0x13 [1, 3]).isWash 3 1 ∧ ((s 3 busy).wash 1).queue = [] ∧ ((s 3 busy).wash 1).state = .washing ∧
    ((s 3 busy).wash 1).occupant = some 4 ∧ ((s 3 busy).vehicle 4).state = .washing ∧
    ((s 3 Wash.blank).wash 1).state = .idle ∧ (report 6 0x13 [1, 5]).isWash 5 1 ∧ ((s 5 busy).wash 1).state ≠ .faulted ∧
    ((s 5 { busy with state := .faulted }).wash 1).state = .faulted ∧
    ((s 5 { busy with state := .faulted }).wash 1).occupant = some 4 ∧
    ((s 5 { Wash.blank with state := .faulted }).wash 1).occupant = none ∧ (report 6 0x13 [1, 4]).isWash 4 1 ∧
    ((s 4 idle).wash 1).state = .idle ∧ ((s 4 { Wash.blank with state := .closed }).wash 1).state = .closed ∧
    ((s 4 { busy with state := .faulted }).wash 1).state = .faulted ∧
    (s 1 idle).clean = true := by
  and_intros <;> first | decide +kernel | rfl | exact ⟨_, _, rfl, rfl⟩

theorem witness_StationsCloseAndOpen :
    yard.ready = true ∧ (bytes [0, 1]).length = 2 ∧ at8 (bytes [0, 1]) 0 = 0 ∧ at8 (bytes [0, 1]) 1 = 1 ∧ 1 ≤ yard.geo.numBays ∧
    at8 (bytes [0, 2]) 1 = yard.geo.numBays ∧ (yard.bay 1).state ≠ .closed ∧ at8 (bytes [1, 1]) 0 = 1 ∧
    1 ≤ yard.geo.numWashes ∧ 2 ≤ at8 (bytes [2, 1]) 0 ∧ at8 (bytes [0, 0]) 1 = 0 ∧
    yard.geo.numBays < at8 (bytes [0, 3]) 1 ∧ yard.geo.numWashes < at8 (bytes [1, 3]) 1 ∧
    yard.clean = true := by
  and_intros <;> first | decide +kernel | rfl

/-! ### Gate queries -/

theorem witness_GateInTurnsAway :
    let many := { yard with service := { yard.service with gate1 := List.replicate 8 { vehicle := 1, arrival := 0 } } }
    yard.startup = false ∧ yard.bus.iface ≠ .sending ∧ 1 ≤ (1#8).toNat ∧ (62#8).toNat ≤ 62 ∧
    (yard.geo.gate 1).dir = .inward ∧ (yard.geo.gate 2).dir = .both ∧ (yard.geo.gate 3).dir = .outward ∧
    yard.byTag (999#32).toNat = none ∧ yard.byTag (200#32).toNat = some 0 ∧ (yard.vehicle 0).state ≠ .out ∧
    yard.byTag (201#32).toNat = some 1 ∧ (yard.vehicle 1).state = .out ∧ ({ yard with mode := .safe }).mode ≠ .running ∧
    yard.mode = .running ∧ 8 ≤ (many.gateQueue 1).length ∧
    yard.clean = true := by
  and_intros <;> first | decide +kernel | rfl

/-- Bay 2 takes batteries only, so a diesel bus finds no bay while bay 1 serves; with bay 1 FREE it goes on to it. -/
theorem witness_GateInAdmits :
    let free := yard.setBay 1 Bay.blank
    let later := { yard with service := { yard.service with gate2 := [{ vehicle := 2, arrival := 14998 }] } }
    yard.startup = false ∧ yard.bus.iface ≠ .sending ∧ 1 ≤ (21#8).toNat ∧ (21#8).toNat ≤ 62 ∧
    (yard.geo.gate (1#8).toNat).dir = .inward ∧ yard.byTag (201#32).toNat = some 1 ∧ (yard.vehicle? 1).isSome = true ∧
    (yard.vehicle 1).state = .out ∧ yard.mode = .running ∧ yard.service.gate1 = [] ∧ yard.service.gate2 = [] ∧
    2 ≤ yard.geo.padCapacity ∧ yard.pad 2 = none ∧ yard.pad 1 ≠ none ∧ (yard.bay 1).state ≠ .free ∧
    (yard.bay 2).state = .free ∧ (yard.geo.bay 2).kind ≠ .fuel ∧ (yard.vehicle 1).drive ≠ .battery ∧ yard.geo.numBays = 2 ∧
    (free.bay 1).state = .free ∧ (free.geo.bay 1).kind = .fuel ∧ later.service.gate2 ≠ [] ∧ (later.gateQueue 1).length < 8 ∧
    yard.clean = true := by
  and_intros <;> first | decide +kernel | rfl

theorem witness_GateOutReleasesOrOtherwise_called :
    yard.startup = false ∧ yard.bus.iface ≠ .sending ∧ 1 ≤ (23#8).toNat ∧ (23#8).toNat ≤ 62 ∧ (1#8).toNat = 1 ∧
    (4#8).toNat = 4 ∧ yard.byTag (206#32).toNat = some 6 ∧ (yard.vehicle? 6).isSome = true ∧
    (yard.vehicle 6).state = .departing ∧ (yard.vehicle 6).assignment = some 3 ∧
    yard.slot 3 = some (duty 3 640 .called (some (6, 106)) (some callRecord)) ∧ yard.yard.stranded = [] ∧
    yard.clean = true := by
  and_intros <;> first | decide +kernel | rfl

/-- The vehicle of slot 1 has left, its exit not confirmed. -/
def left : Slot := { duty 1 700 .gone none none with last := some (1, 101), unconfirmed := true }
theorem witness_GateOutReleasesOrOtherwise_otherwise :
    let gone := { yard with roster := { yard.roster with active := [left] } }
    let lost := yard.place 0 .unknown .absent
    let second := yard.setLane 1 { yard.lane 1 with
      entries := [{ vehicle := 7, pos := 1, mark := .settled }, { vehicle := 0, pos := 2, mark := .settled }] }
    (¬ 1 ≤ (0#8).toNat) ∧ (¬ (5#8).toNat ≤ 4) ∧ 1 ≤ (1#8).toNat ∧ (4#8).toNat ≤ 4 ∧ yard.byTag (999#32).toNat = none ∧
    yard.byTag (201#32).toNat = some 1 ∧ (yard.vehicle 1).state = .out ∧ (∀ y ∈ yard.roster.active, y.state ≠ .gone) ∧
    left ∈ gone.roster.active ∧ left.state = .gone ∧ left.unconfirmed = true ∧ left.last = some (1, gone.fleetOf 1) ∧
    lost.byTag (200#32).toNat = some 0 ∧ (lost.vehicle? 0).isSome = true ∧ (lost.vehicle 0).state = .unknown ∧
    (lost.vehicle 0).assignment = some 2 ∧ (∃ x, lost.slot 2 = some x ∧ x.assigned.isSome = true) ∧
    (yard.vehicle 0).state = .parked ∧ (yard.vehicle 0).loc = .lane 1 1 ∧
    (yard.lane 1).entries.head? = some { vehicle := 0, pos := 1, mark := .settled } ∧ yard.yard.stranded = [] ∧
    (second.lane 1).entries.head? = some { vehicle := 7, pos := 1, mark := .settled } ∧
    yard.clean = true := by
  and_intros <;> first | decide +kernel | rfl | exact ⟨_, rfl, rfl⟩

/-! ### Lanes, moves and placement -/

/-- The yard with point 2, at lane 1 position 2, IDLE. -/
def pointIdle : State := yard.setPoint 2 { Point.blank with cond := some .idle }
/-- The yard with lane 3 CLOSED and an early key for vehicle 4, so that lane 1 is a candidate but not ordered. -/
def early (spots : List (Nat × Spot)) : State :=
  { (yard.updLane 3 (fun r => { r with state := .closed })).updVehicle 4 (fun r => { r with key := 600 }) with
    yard := { (yard.updLane 3 (fun r => { r with state := .closed })).yard with spots := ⟨spots⟩ } }
/-- Lane 1 is ordered for vehicle 4 by keys 650 and 1440, lane 2 is no candidate while its entry leaves, lane 3 is empty. -/
theorem witness_PlacementChoosesBerth :
    (yard.geo.lane 1).kind = .flow ∧ (yard.lane 1).state = .opened ∧ (yard.lane 1).closing = false ∧
    (yard.lane 1).entries.getLast? = some { vehicle := 0, pos := 1, mark := .settled } ∧ (yard.vehicle 0).key = 650 ∧
    (yard.vehicle 4).key = 1440 ∧ (yard.geo.lane 2).kind = .dead ∧ (∃ e ∈ (yard.lane 2).entries, e.mark.isLeaving = true) ∧
    (yard.lane 3).entries = [] ∧ (1440 - 650 < 1441) ∧ (yard.vehicle 4).drive = .battery ∧ 0 < yard.needOf 4 ∧
    (pointIdle.geo.lane 1).points.get? 2 = some 2 ∧ (pointIdle.point 2).state = .idle ∧ (yard.point 2).state ≠ .idle ∧
    ((early []).vehicle 4).key = 600 ∧ ((early []).lane 3).state ≠ .opened ∧ (early []).spot 1 = none ∧
    (early [(1, .held 7), (2, .held 2)]).spot 1 ≠ none ∧ (early [(1, .held 7), (2, .held 2)]).spot 2 ≠ none ∧
    (early []).geo.numSpots = 2 ∧ (∀ l, l ≤ 3 → ((crowded []).lane l).state ≠ .opened) := by
  and_intros <;> first | decide +kernel | rfl

theorem witness_LaneReadClosedOpened :
    let unverified := yard.updLane 1 (fun r => { r with state := .unverified })
    yard.ready = true ∧ (bytes [1]).length = 1 ∧ at8 (bytes [1]) 0 = 1 ∧ yard.geo.numLanes < 4 ∧ 1 ≤ yard.geo.numLanes ∧
    yard.passes (laneRecord 1) = true ∧ yard.passes (laneRecord 3) = true ∧ (yard.lane 1).state = .opened ∧
    ({ yard with mode := .safe }).mode = .safe ∧ yard.mode ≠ .safe ∧ (unverified.lane 1).state = .unverified ∧
    ((crowded []).lane 1).state = .closed ∧ (crowded []).yard.stranded = [] ∧
    yard.clean = true := by
  and_intros <;> first | decide +kernel | rfl

/-- Lane 1 with that entry at that position, and its image. -/
def oneEntry (vehicle pos : Nat) (mark : Mark) (image : Byte) : Lane :=
  { Lane.blank with state := .opened, entries := [{ vehicle := vehicle, pos := pos, mark := mark }], image := image }
/-- The yard with lane 1 UNVERIFIED. -/
def toVerify : State := yard.updLane 1 (fun r => { r with state := .unverified })
theorem witness_VerifyRebuildsLane :
    let body := bytes [1, 1, 1, 0, 100]
    yard.ready = true ∧ at8 body 0 = 1 ∧ at8 body 1 = [(1, 100)].length ∧ body.length = 2 + 3 * 1 ∧ at8 body 2 = 1 ∧
    at16 body 3 = 100 ∧ (3 : Nat) ≤ (yard.geo.lane 1).depth ∧ ¬ (4 ≤ (yard.geo.lane 1).depth) ∧ yard.byFleet 100 = some 0 ∧
    yard.byFleet 99 = none ∧ 1 ≤ yard.geo.numLanes ∧ yard.passes (laneRecord 1) = true ∧ (yard.lane 1).state ≠ .unverified ∧
    toVerify.mode = .running ∧ (toVerify.lane 1).state = .unverified ∧
    (∀ p, 1 ≤ p → p ≤ 8 → ((toVerify.lane 1).image.getLsbD (p - 1) = true ↔ p = 1)) ∧ (toVerify.vehicle 0).state = .parked ∧
    (toVerify.vehicle 0).loc = .lane 1 1 ∧ (toVerify.vehicle 0).body ≠ .artic ∧ toVerify.yard.stranded = [] ∧
    toVerify.fleet.vehicles.wf = true ∧ (toVerify.vehicle? 0).isSome = true ∧ (toVerify.vehicle 0).fleet = 100 ∧
    (∀ r ∈ toVerify.fleet.vehicles.rows, r.2.state = .departing → r.2.loc = .lane 2 3) ∧
    yard.clean = true := by
  and_intros <;> first | decide +kernel | rfl

/-- Vehicle 0 stands where a move brought it: its source entry still in lane 3, or the spot it came from still held. -/
theorem witness_VerifyRebuildsLane_moved :
    let s := (toVerify.place 0 .toBerth (.lane 1 1)).setLane 3 (oneEntry 0 1 (.leavingMove 15005 false) 1)
    let held := (toVerify.place 0 .toBerth (.lane 1 1)).setSpot 2 (some (.held 0))
    (s.lane 3).entries = [{ vehicle := 0, pos := 1, mark := .leavingMove 15005 false }] ∧
    (∀ e ∈ (s.lane 2).entries, e.vehicle ≠ 0) ∧ (∀ e ∈ (s.lane 1).entries, e.mark = .settled) ∧
    (s.vehicle 0).state = .toBerth ∧ held.spot 2 = some (.held 0) ∧ s.clean = true ∧
    ((toVerify.updLane 1 (fun r => { r with closing := true })).lane 1).closing = true := by
  and_intros <;> first | decide +kernel | rfl
theorem witness_MoveVehicleStarts :
    let body := fun (fleet kind n : Nat) => bytes [0, fleet, kind, n]
    yard.ready = true ∧ (body 100 7 3).length = 4 ∧ at8 (body 100 6 3) 2 ≠ 7 ∧ at8 (body 100 9 3) 2 ≠ 8 ∧
    at8 (body 100 7 3) 2 = 7 ∧ yard.byFleet (at16 (body 99 7 3) 0) = none ∧ (¬ 1 ≤ at8 (body 100 7 0) 3) ∧
    (¬ at8 (body 100 7 4) 3 ≤ yard.geo.numLanes) ∧ (¬ at8 (body 100 8 3) 3 ≤ yard.geo.numSpots) ∧
    yard.byFleet (at16 (body 100 7 3) 0) = some 0 ∧ yard.passes 0 = true ∧ (yard.vehicle? 0).isSome = true ∧
    yard.mode = .running ∧ (yard.vehicle 0).state = .parked ∧ (yard.vehicle 0).loc = .lane 1 1 ∧
    (yard.lane 1).entries.head? = some { vehicle := 0, pos := 1, mark := .settled } ∧ (yard.lane 1).state ≠ .unverified ∧
    (∀ x ∈ (yard.lane 1).entries, x.mark.isLeaving = false) ∧ (yard.geo.lane 1).kind ≠ .dead ∧
    (yard.vehicle 2).state = .unknown ∧ yard.candidate 0 3 = true ∧ yard.candidate 0 2 = false ∧ yard.spot 2 = none ∧
    yard.spot 1 ≠ none ∧ (yard.vehicle 7).state = .inOverflow ∧ (yard.vehicle 7).loc = .overflow 1 ∧
    yard.candidate 7 3 = true ∧ yard.yard.stranded = [] ∧
    yard.clean = true := by
  and_intros <;> first | decide +kernel | rfl

theorem witness_PlaceVehicleInCensus :
    let s := { yard with mode := .census }
    let body := fun (fleet kind n pos : Nat) => bytes [0, fleet, kind, n, pos]
    s.ready = true ∧ (body 102 7 3 2).length = 5 ∧ at8 (body 102 9 3 2) 2 = 9 ∧ s.byFleet (at16 (body 99 7 3 2) 0) = none ∧
    s.geo.numLanes < at8 (body 102 7 4 1) 3 ∧ s.geo.numSpots < at8 (body 102 8 3 0) 3 ∧
    s.byFleet (at16 (body 102 7 3 2) 0) = some 2 ∧ s.passes 2 = true ∧ (s.vehicle? 2).isSome = true ∧ yard.mode ≠ .census ∧
    s.mode = .census ∧ 1 ≤ at8 (body 102 7 3 2) 4 ∧ at8 (body 102 7 3 2) 4 = (s.geo.lane 3).depth ∧
    (s.vehicle 2).body ≠ .artic ∧ (s.lane 3).at? 2 = none ∧ (s.geo.lane 3).depth < at8 (body 102 7 3 3) 4 ∧
    (s.vehicle 2).state = .unknown ∧ s.spot 2 = none ∧ s.spot 1 = some (.held 7) ∧ (s.vehicle 7).state = .inOverflow ∧
    (s.vehicle 7).loc = .overflow 1 ∧ (s.vehicle 0).state = .parked ∧ (s.vehicle 0).loc = .lane 1 1 ∧
    at8 (body 100 7 1 1) 4 = 1 ∧
    s.clean = true := by
  and_intros <;> first | decide +kernel | rfl

theorem witness_LaneReportJudged :
    let s := fun (set : Nat) (r : Lane) => heard 4 0x14 [0, set] (yard.setLane 1 r)
    let u := s 1 (oneEntry 0 1 .settled 0)
    u.bus.inbound = [report 4 0x14 [0, 1]] ∧ (report 4 0x14 [0, 1]).kind = 0x14#8 ∧ (u.geo.lane 1).node = 4 ∧
    (u.geo.lane 1).index = 0 ∧ (u.geo.lane 2).index ≠ 0 ∧ (u.geo.lane 3).index ≠ 0 ∧ u.geo.numLanes = 3 ∧
    at8 (report 4 0x14 [9, 1]).payload 0 = 9 ∧ (u.lane 1).state ≠ .unverified ∧
    ((s 1 { oneEntry 0 1 .settled 0 with state := .unverified }).lane 1).state = .unverified ∧ (u.geo.lane 1).depth ≤ 8 ∧
    (u.lane 1).image.getLsbD 0 = false ∧ (1#8).getLsbD 0 = true ∧
    (∀ q, 1 ≤ q → q ≤ 8 → q ≠ 1 → (1#8).getLsbD (q - 1) = (u.lane 1).image.getLsbD (q - 1)) ∧ u.yard.stranded = [] ∧
    (∀ x ∈ u.roster.active, u.due x = false) ∧
    ((s 1 (oneEntry 2 1 (.arriving 15005) 0)).lane 1).at? 1 = some { vehicle := 2, pos := 1, mark := .arriving 15005 } ∧
    ((s 1 (oneEntry 2 1 (.arriving 15005) 0)).vehicle? 2).isSome = true ∧ (u.lane 1).at? 1 ≠ none ∧
    ((s 4 { oneEntry 0 1 .settled 0 with image := 0 }).lane 1).at? 3 = none ∧
    ((s 0 (oneEntry 0 1 .settled 1)).lane 1).image.getLsbD 0 = true ∧ (0#8).getLsbD 0 = false ∧
    ((s 0 (oneEntry 0 1 .leavingExit 1)).lane 1).at? 1 = some { vehicle := 0, pos := 1, mark := .leavingExit } ∧
    Mark.isLeaving .leavingExit = true ∧ Mark.isLeaving .settled = false ∧
    ((s 0 { oneEntry 0 1 .settled 3 with image := 4 }).lane 1).at? 3 = none ∧
    u.clean = true := by
  and_intros <;> first | decide +kernel | rfl
/-- The emptied berth of a called vehicle, and of one that moves to a spot. -/
theorem witness_LaneReportJudged_leaving :
    let s := heard 4 0x14 [1, 0] yard
    let m := heard 4 0x14 [0, 0] { (yard.place 0 .toBerth (.overflow 2)).setLane 1 (oneEntry 0 1 (.leavingMove 15005 false) 1) with
      mode := .safe }
    (s.lane 2).at? 3 = some { vehicle := 6, pos := 3, mark := .leavingCall } ∧ (s.lane 2).image.getLsbD 2 = true ∧
    (s.vehicle? 6).isSome = true ∧ (s.vehicle 6).state = .departing ∧ (s.vehicle 6).loc = .lane 2 3 ∧
    (s.vehicle 6).assignment = some 3 ∧ s.slot 3 = some (duty 3 640 .called (some (6, 106)) (some callRecord)) ∧
    m.mode ≠ .running ∧ (m.lane 1).at? 1 = some { vehicle := 0, pos := 1, mark := .leavingMove 15005 false } ∧
    (m.vehicle? 0).isSome = true ∧ (m.vehicle 0).state = .toBerth ∧ (m.vehicle 0).loc = .overflow 2 := by
  and_intros <;> first | decide +kernel | rfl

/-- Vehicle 2 arrives from a spot that it holds, or from lane 3; the berth of a move that is over. -/
theorem witness_LaneReportJudged_moved :
    let s := heard 4 0x14 [0, 1] ((yard.place 2 .toBerth (.lane 1 1)).setLane 1 (oneEntry 2 1 (.arriving 15005) 0))
    let held := s.setSpot 2 (some (.held 2))
    let moved := s.setLane 3 (oneEntry 2 1 (.leavingMove 15005 false) 1)
    let gone := heard 4 0x14 [2, 0] (yard.setLane 3 (oneEntry 2 1 (.leavingMove 15005 true) 1))
    s.clean = true ∧ (s.lane 1).at? 1 = some { vehicle := 2, pos := 1, mark := .arriving 15005 } ∧
    held.spot 2 = some (.held 2) ∧ (moved.lane 3).entries = [{ vehicle := 2, pos := 1, mark := .leavingMove 15005 false }] ∧
    (∀ e ∈ (moved.lane 2).entries, e.vehicle ≠ 2) ∧
    (gone.lane 3).at? 1 = some { vehicle := 2, pos := 1, mark := .leavingMove 15005 true } ∧
    (gone.lane 3).image.getLsbD 0 = true := by
  and_intros <;> first | decide +kernel | rfl

theorem witness_MovementsExpire_service :
    let bay := (yard.place 3 .toBay (.bay 1)).setBay 1
      { Bay.blank with state := .awaiting, closing := true, occupant := some 3, deadline := some 15000 }
    let wash := yard.setWash 2 { Wash.blank with queue := [queued 2 (some 15000)] }
    yard.clock.isSet = true ∧ yard.now = 15000 ∧ 15000 ≤ yard.now ∧ (yard.vehicle? 3).isSome = true ∧ 1 ≤ yard.geo.numBays ∧
    (bay.bay 1).occupant = some 3 ∧ (bay.bay 1).onward = false ∧ (bay.bay 1).deadline = some 15000 ∧
    (bay.vehicle 3).state = .toBay ∧ (bay.bay 1).closing = true ∧ 2 ≤ yard.geo.numWashes ∧
    (wash.wash 2).queue = [queued 2 (some 15000)] ∧ yard.now < 15001 ∧
    ((yard.setBay 1 { Bay.blank with deadline := some 15001 }).bay 1).deadline = some 15001 ∧
    ((yard.setWash 2 { Wash.blank with queue := [queued 2 (some 15001)] }).wash 2).queue = [queued 2 (some 15001)] := by
  and_intros <;> first | decide +kernel | rfl
theorem witness_MovementsExpire_lanes :
    let s := fun (m : Mark) => (yard.place 2 .toBerth (.lane 3 1)).setLane 3 (oneEntry 2 1 m 0)
    let spot := (yard.place 2 .toBerth (.overflow 2)).setSpot 2 (some (.reserved 2 15000))
    yard.clock.isSet = true ∧ 15000 ≤ yard.now ∧ (yard.vehicle? 2).isSome = true ∧ yard.yard.stranded = [] ∧
    (∃ e ∈ ((s (.arriving 15000)).lane 3).entries, e.vehicle = 2 ∧ e.mark = .arriving 15000) ∧ 3 ≤ yard.geo.numLanes ∧
    (∀ l, l ≤ 2 → ∀ e ∈ ((s (.arriving 15000)).lane l).entries, e.vehicle ≠ 2) ∧ 2 ≤ yard.geo.numSpots ∧
    spot.spot 2 = some (.reserved 2 15000) ∧ (∀ l, l ≤ 3 → ∀ e ∈ (spot.lane l).entries, e.vehicle ≠ 2) ∧
    (∃ e ∈ ((s (.leavingMove 15000 false)).lane 3).entries, e.vehicle = 2 ∧ e.mark = .leavingMove 15000 false) ∧
    (∀ n, n ≤ 2 → (s (.leavingMove 15000 false)).spot n ≠ some (.reserved 2 15000)) ∧
    yard.clean = true := by
  and_intros <;> first | decide +kernel | rfl

theorem witness_MovementsExpire_waits :
    let s := (yard.place 2 .toBerth (.lane 3 1)).setLane 3 (oneEntry 2 1 (.arriving 15001) 0)
    let both := s.setLane 1 (oneEntry 2 1 (.leavingMove 15001 false) 1)
    s.clean = true ∧ s.now < 15001 ∧ (∃ e ∈ (both.lane 1).entries, e.vehicle = 2 ∧ e.mark = .leavingMove 15001 false) ∧
    ({ s with clock := .blank }).clock.isSet = false := by
  and_intros <;> first | decide +kernel | rfl

/-- A stranded vehicle in bay 1 with only spot 2 free, one with room in lane 1, and one in wash lane 1. -/
theorem witness_StrandedRetried :
    let s := fun (u : State) => { u.place 3 .stranded (.bay 1) with yard := { u.yard with stranded := [3] } }
    let spot := s (crowded [(1, .held 7)])
    let wash := { (s yard) with yard := { yard.yard with stranded := [4] } }
    ({ yard with mode := .safe }).mode ≠ .running ∧ spot.mode = .running ∧ spot.yard.stranded = 3 :: [] ∧
    (spot.vehicle? 3).isSome = true ∧ (spot.vehicle 3).loc = .bay 1 ∧ spot.chooseBerth 3 = .spot 2 ∧ spot.spot 2 = none ∧
    spot.spot 1 ≠ none ∧ (s (crowded [(1, .held 7), (2, .held 2)])).chooseBerth 3 = .nowhere ∧
    (s yard).chooseBerth 3 = .lane 1 false ∧ (wash.vehicle 4).loc = .wash 1 ∧ (wash.wash 1).occupant = some 4 ∧
    (wash.wash 1).queue = [] ∧ (wash.wash 1).state = .washing := by
  and_intros <;> first | decide +kernel | rfl

/-! ### Charging and the site budget -/

theorem witness_BudgetRefreshedOrStale :
    let fresh := fun (d : Nat) =>
      { yard with energy := { yard.energy with budget := { fresh := true, last := some (300, .meter), deadline := some d } } }
    let limit := fun (source : Nat) => heard source 0x16 [1, 0] yard
    yard.ready = true ∧ (bytes [5, 220]).length = 2 ∧ yard.beh.contract < at16 (bytes [5, 221]) 0 ∧
    (limit 9).bus.inbound = [report 9 0x16 [1, 0]] ∧ (report 9 0x16 [1, 0]).kind = 0x16#8 ∧
    (report 9 0x16 [1, 0]).source.toNat = (limit 9).geo.meter ∧ (report 8 0x16 [1, 0]).source.toNat ≠ (limit 8).geo.meter ∧
    yard.energy.budget.fresh = false ∧ (fresh 15001).energy.budget.deadline = some 15001 ∧ yard.now < 15001 ∧
    (fresh 15000).energy.budget.fresh = true ∧ (fresh 15000).energy.budget.deadline = some 15000 ∧
    (fresh 15000).clock.isSet = true ∧ 15000 ≤ (fresh 15000).now ∧
    yard.clean = true := by
  and_intros <;> first | decide +kernel | rfl

/-- A session of vehicle 0 at point 1. -/
def session : Session :=
  { vehicle := 0, startSoe := 1000, base := 20, delivered := 0, requirement := 500, target := 1700, deadline := 630,
    opened := 14990, grant := 0, grade := some .onTrack, capped := false, short := false, incompat := false, n := 0, m := 0,
    c := 0, q := 0 }
/-- The yard with point 1 in that condition, a stop mark and a session. -/
def charger (cond : Option Cond) (stop : Option Nat) (x : Option Session) : State :=
  yard.setPoint 1 { Point.blank with cond := cond, stop := stop, counter := 20, accept := some 40, session := x }
theorem witness_SessionsStoppedAndResumed :
    let s := charger (some .connected) (some 0) none
    yard.ready = true ∧ (bytes [1]).length = 1 ∧ at8 (bytes [1]) 0 = 1 ∧ yard.geo.numPoints < 3 ∧ yard.geo.numPoints = 2 ∧
    yard.passes (sessionRecord 1) = true ∧ yard.passes (sessionRecord 2) = true ∧
    (yard.lane (yard.geo.point 1).lane).at? (yard.geo.point 1).pos = some { vehicle := 0, pos := 1, mark := .settled } ∧
    (yard.vehicle 0).state = .parked ∧ (yard.lane (yard.geo.point 2).lane).at? (yard.geo.point 2).pos = none ∧
    (s.point 1).stop = some 0 ∧ (yard.point 1).stop ≠ some 0 ∧ (yard.point 1).stop = none ∧ s.mode = .running ∧
    s.clock.isSet = true ∧ (s.point 1).cond = some .connected ∧ (s.point 1).session = none ∧ (s.vehicle 0).drive = .battery ∧
    s.damaged 0 = false ∧ (charger none (some 0) none).point 1 ≠ s.point 1 ∧ ((charger none (some 0) none).point 1).cond = none ∧
    yard.clean = true := by
  and_intros <;> first | decide +kernel | rfl

theorem witness_PointReportsTaken :
    let s := fun (cond : Nat) (u : State) => heard 11 0x15 [1, cond, 0, 40, 0, 0] u
    let none' := charger (some .idle) none none
    let open' := charger (some .active) none (some session)
    let empty := none'.setLane 1 { Lane.blank with state := .opened }
    (s 1 none').bus.inbound = [report 11 0x15 [1, 1, 0, 40, 0, 0]] ∧ (report 11 0x15 [1, 1, 0, 40, 0, 0]).kind = 0x15#8 ∧
    at8 (report 11 0x15 [1, 1, 0, 40, 0, 0]).payload 0 = 1 ∧ yard.geo.numPoints < 3 ∧
    (s 1 none').geo.cabinetNode ((s 1 none').geo.point 1).cabinet = 11 ∧ condOf 0 = none ∧ condOf 5 = none ∧
    condOf 1 = some .idle ∧ condOf 4 = some .faulted ∧ ((s 1 none').point 1).session = none ∧
    ((s 1 none').point 1).cond = some .idle ∧ ((s 1 (charger (some .connected) none none)).point 1).cond ≠ some .idle ∧
    ((s 4 none').point 1).cond ≠ some .faulted ∧
    ((s 4 none').lane 1).at? 1 = some { vehicle := 0, pos := 1, mark := .settled } ∧
    ((s 4 none').vehicle 0).state = .parked ∧ ((s 4 none').vehicle 0).drive = .battery ∧ (s 4 none').damaged 0 = false ∧
    ((s 2 empty).lane 1).at? 1 = none ∧ ((s 2 empty).point 1).stop = none ∧ ((s 2 empty).lane 1).state ≠ .unverified ∧
    ((s 3 open').point 1).session = some session ∧ ((s 3 open').point 1).cond = some .active ∧ condOf 3 = some .active ∧
    ((s 3 open').vehicle? 0).isSome = true ∧
    min ((s 3 open').vehicle 0).capacity (session.startSoe + min 9999 (40 - session.base)) < session.target ∧
    (s 1 none').clean = true := by
  and_intros <;> first | decide +kernel | rfl

theorem witness_PointReportsTaken_sessions :
    let s := fun (cond kw : Nat) (u : State) => heard 11 0x15 [1, cond, 0, 40, 0, kw] u
    let done := charger (some .active) none (some { session with target := 900 })
    let open' := charger (some .active) none (some session)
    let plug := s 2 0 (charger (some .idle) (some 7) none)
    plug.clean = true ∧ (plug.mode = .running ∨ plug.mode = .safe) ∧ plug.clock.isSet = true ∧
    (plug.lane 1).at? 1 = some { vehicle := 0, pos := 1, mark := .settled } ∧ (plug.vehicle 0).state = .parked ∧
    (plug.vehicle 0).drive = .battery ∧ plug.damaged 0 = false ∧ (plug.point 1).stop ≠ some 0 ∧
    (plug.point 1).session = none ∧ (plug.point 1).cond = some .idle ∧ condOf 2 = some .connected ∧
    ((s 3 0 done).point 1).session = some { session with target := 900 } ∧
    900 ≤ min ((s 3 0 done).vehicle 0).capacity (session.startSoe + min 9999 (40 - session.base)) ∧
    session.grade ≠ some .complete ∧ ((s 3 30 open').point 1).accept ≠ some 30 ∧
    ((s 3 0 open').point 1).cond ≠ condOf 2 ∧ ((s 3 40 open').point 1).accept = some 40 ∧
    at8 (report 11 0x15 [1, 1, 0, 40, 0, 0]).payload 1 = 1 := by
  and_intros <;> first | decide +kernel | rfl | exact Or.inl (by decide +kernel)

theorem witness_AllocationSharesAndGrades :
    let s := (charger (some .active) none (some session)).recompute
    1 ≤ s.geo.numPoints ∧ (s.session 1).isSome = true := by
  and_intros <;> first | decide +kernel | rfl

/-- A session under way, one at its target, one at a point that cannot give its minimum, one to be re-targeted. -/
theorem witness_AllocationSharesAndGrades_cases :
    let s := fun (x : Session) => charger (some .active) none (some x)
    let weak := (s session).updVehicle 0 (fun r => { r with acceptance := 5 })
    1 ≤ (s session).geo.numPoints ∧ (s session).session 1 = some session ∧ ((s session).vehicle 0).soe < session.target ∧
    (s session |>.geo.point 1).pmin ≤ min 150 (min 40 ((s session).vehicle 0).acceptance) ∧
    (s { session with target := 900 }).session 1 = some { session with target := 900 } ∧
    900 ≤ ((s { session with target := 900 }).vehicle 0).soe ∧ (weak.vehicle 0).acceptance < (weak.geo.point 1).pmin ∧
    session.target ≠ min ((s session).vehicle 0).capacity ((s session).requirementOf 0 + (s session).beh.reserve) ∧
    700 = min ((s session).vehicle 0).capacity ((s session).requirementOf 0 + (s session).beh.reserve) ∧
    630 = ((s session).vehicle 0).key - (s session).beh.margin := by
  and_intros <;> first | decide +kernel | rfl

/-! ### The departure roster -/

/-- The yard with these slots active. -/
def rostered (active : List Slot) (s : State) : State := { s with roster := { s.roster with active := active } }
/-- A plan of `n` slots. -/
def manySlots (n : Nat) : List Slot := (List.range n).map (fun i => duty (i + 1) 700 .opened none none)

theorem witness_SlotsAddedAndAmended_adds :
    let body := fun (plan num release duty bodies drives gate : Nat) =>
      bytes [plan, num / 256, num % 256, release / 256, release % 256, 0, duty, bodies, drives, 0, 0, gate]
    let good := body 0 320 1439 7 15 3 3
    yard.ready = true ∧ good.length = 12 ∧ 2 ≤ at8 (body 2 320 0 7 15 3 3) 0 ∧ planOf (at8 good 0) = some .active ∧
    planOf (at8 (body 1 1 0 7 1 1 3) 0) = some .staged ∧ at16 good 5 ≠ 0 ∧ 0 < at8 good 7 ∧ at8 good 7 < 16 ∧
    0 < at8 good 8 ∧ at8 good 8 < 4 ∧ (¬ at16 (body 0 1 0 0 15 3 3) 5 ≠ 0) ∧ (¬ at8 (body 0 1 0 7 16 3 3) 7 < 16) ∧
    (¬ at8 (body 0 1 0 7 15 4 3) 8 < 4) ∧ at16 good 1 = 320 ∧ at16 good 3 = 1439 ∧ (¬ at16 (body 0 321 0 7 15 3 3) 1 ≤ 320) ∧
    (¬ at16 (body 0 1 1440 7 15 3 3) 3 ≤ 1439) ∧ (¬ 1 ≤ at8 (body 0 1 0 7 15 3 0) 11) ∧
    320 ≤ ((rostered (manySlots 320) yard).plan .active).length ∧ (yard.plan .active).length < 320 ∧
    (∃ x ∈ yard.plan .active, x.num = 1) ∧ (∀ x ∈ yard.plan .active, x.num ≠ 320) ∧ (yard.geo.gate 3).dir = .outward ∧
    (yard.geo.gate 4).dir = .none ∧ yard.passes (settingsRecord 1) = true ∧ yard.roster.active.length + yard.roster.staged.length < 640 ∧
    yard.clean = true := by
  and_intros <;> first | decide +kernel | rfl

theorem witness_SlotsAddedAndAmended_amends :
    let body := fun (plan num mask release : Nat) =>
      bytes [plan, 0, num, mask, release / 256, release % 256, 0, 7, 15, 3, 0, 0, 3]
    let good := body 0 2 63 1439
    yard.ready = true ∧ good.length = 13 ∧ planOf (at8 good 0) = some .active ∧ at8 good 3 < 64 ∧ at16 good 6 ≠ 0 ∧
    0 < at8 good 8 ∧ at8 good 8 < 16 ∧ 0 < at8 good 9 ∧ at8 good 9 < 4 ∧ (¬ at8 (body 0 2 64 0) 3 < 64) ∧
    slotIn (yard.plan .active) 9 = none ∧ slotIn (yard.plan .active) 2 = some (duty 2 650 .assigned (some (0, 100)) none) ∧
    yard.passes (duty 2 650 .assigned (some (0, 100)) none).record = true ∧
    slotIn (yard.plan .active) 3 = some (duty 3 640 .called (some (6, 106)) (some callRecord)) ∧
    at16 good 4 = 1439 ∧ (¬ at16 (body 0 2 63 1440) 4 ≤ 1439) ∧ at16 good 10 ≤ 9999 ∧ at8 good 12 = 3 ∧
    (yard.geo.gate 3).dir = .outward ∧ at8 (body 0 2 0 0) 3 = 0 ∧ yard.fleetOf 0 = 100 ∧
    accepts (BitVec.ofNat 8 (at8 good 8)) (BitVec.ofNat 8 (at8 good 9)) (yard.vehicle 0).body (yard.vehicle 0).drive = true ∧
    (yard.vehicle? 0).isSome = true ∧ (yard.vehicle 0).assignment = some 2 ∧ (yard.vehicle 0).key = 650 ∧
    slotIn (yard.plan .staged) 1 = some (duty 1 600 .opened none none) ∧
    yard.clean = true := by
  and_intros <;> first | decide +kernel | rfl

theorem witness_SlotsAssignedAndCancelled_assigns :
    let body := fun (plan num v f : Nat) => bytes [plan, 0, num, v / 256, v % 256, 0, f]
    yard.ready = true ∧ (body 0 1 2 102).length = 7 ∧ planOf (at8 (body 0 1 2 102) 0) = some .active ∧
    at16 (body 0 1 2 0) 5 = 0 ∧ 320 ≤ at16 (body 0 1 320 102) 3 ∧ slotIn (yard.plan .active) 9 = none ∧
    slotIn (yard.plan .active) 1 = some (duty 1 700 .opened none none) ∧ yard.passes 321 = true ∧ yard.passes 2 = true ∧
    (yard.vehicle? 2).isSome = true ∧ yard.fleetOf 2 = 102 ∧ yard.damaged 2 = false ∧ yard.fleetOf 2 ≠ 103 ∧
    (damaged 2).damaged 2 = true ∧ (damaged 2).passes 2 = true ∧ (yard.vehicle 2).assignment = none ∧
    (yard.vehicle 0).assignment = some 2 ∧ accepts 15 3 (yard.vehicle 2).body (yard.vehicle 2).drive = true ∧
    slotIn (yard.plan .active) 2 = some (duty 2 650 .assigned (some (0, 100)) none) ∧
    (∀ y ∈ yard.roster.staged, y.assigned ≠ some (2, 102)) ∧ slotIn (yard.plan .staged) 1 = some (duty 1 600 .opened none none) ∧
    yard.clean = true := by
  and_intros <;> first | decide +kernel | rfl
theorem witness_SlotsAssignedAndCancelled_cancels :
    let called := fun (s : State) => slotIn (s.plan .active) 3
    let inSpot : Call := { callRecord with place := .spot 1 }
    let s := rostered [duty 3 640 .called (some (7, 107)) (some inSpot)] (yard.place 7 .departing (.overflow 1))
    (bytes [0, 0, 1]).length = 3 ∧ planOf (at8 (bytes [0, 0, 1]) 0) = some .active ∧
    planOf (at8 (bytes [1, 0, 1]) 0) = some .staged ∧ slotIn (yard.plan .staged) 1 = some (duty 1 600 .opened none none) ∧
    yard.passes (duty 1 600 .opened none none).record = true ∧
    slotIn (yard.plan .active) 1 = some (duty 1 700 .opened none none) ∧
    slotIn (yard.plan .active) 2 = some (duty 2 650 .assigned (some (0, 100)) none) ∧ (yard.vehicle? 0).isSome = true ∧
    called yard = some (duty 3 640 .called (some (6, 106)) (some callRecord)) ∧ (yard.vehicle? 6).isSome = true ∧
    (yard.vehicle 6).loc = .lane 2 3 ∧ ((yard.place 6 .departing .apron).vehicle 6).loc = .apron ∧
    called s = some (duty 3 640 .called (some (7, 107)) (some inSpot)) ∧ (s.vehicle 7).loc = .overflow 1 ∧
    slotIn ((rostered [left] yard).plan .active) 1 = some left ∧ left.state = .gone ∧
    yard.clean = true := by
  and_intros <;> first | decide +kernel | rfl

/-- The last minute of the day, the staged plan empty and READY. -/
def lastMinute : State :=
  { yard with clock := { yard.clock with minute := 1439 }, roster := { yard.roster with staged := [], ready := true } }
theorem witness_StagedPlanClearedOrMarked :
    yard.ready = true ∧ (bytes []).length = 0 ∧ (bytes [1]).length = 1 ∧ at8 (bytes [1]) 0 < 2 ∧ lastMinute.ready = true ∧
    lastMinute.clock.isSet = true ∧ lastMinute.clock.minute = 1439 ∧ lastMinute.roster.ready = true ∧
    lastMinute.roster.staged = [] ∧ (lastMinute.vehicle? 0).isSome = true ∧
    yard.clean = true := by
  and_intros <;> first | decide +kernel | rfl
theorem witness_CommitMakesStagedActive :
    let s := rostered [] yard
    yard.ready = true ∧ (bytes []).length = 0 ∧ (∃ x ∈ yard.roster.active, x.state = .called) ∧ s.ready = true ∧
    (∀ x ∈ s.roster.active, x.state ≠ .called) ∧
    s.roster.staged.Pairwise (fun x y => x.num ≠ y.num ∧
      (x.assigned = none ∨ x.assigned.map (·.1) ≠ y.assigned.map (·.1))) ∧
    s.roster.staged[1]? = some (duty 2 650 .assigned (some (0, 100)) none) ∧ (s.vehicle? 0).isSome = true ∧
    s.fleetOf 0 = 100 ∧ s.damaged 0 = false ∧ accepts 15 3 (s.vehicle 0).body (s.vehicle 0).drive = true ∧
    (damaged 0).damaged 0 = true ∧ (s.vehicle? 7).isSome = true ∧ s.vehicle? 8 = none ∧
    yard.clean = true := by
  and_intros <;> first | decide +kernel | rfl
theorem witness_CallNowCalls :
    let body := bytes [0, 2]
    let slot := duty 2 650 .assigned (some (0, 100)) none
    let spot := rostered [duty 4 650 .assigned (some (7, 107)) none] yard
    yard.ready = true ∧ body.length = 2 ∧ at16 body 0 = 2 ∧ ({ yard with mode := .census }).mode = .census ∧
    yard.mode = .running ∧ yard.clock.isSet = true ∧ yard.slot 9 = none ∧ yard.slot 2 = some slot ∧
    yard.passes slot.record = true ∧ yard.passes 0 = true ∧ slot.state = .assigned ∧ (yard.vehicle? 0).isSome = true ∧
    yard.slot 1 = some (duty 1 700 .opened none none) ∧ (yard.place 0 .unknown .absent |>.vehicle 0).state = .unknown ∧
    (yard.updLane 1 (fun r => { r with state := .unverified })).callable 0 = false ∧ yard.callable 0 = true ∧
    ((yard.updVehicle 0 (fun r => { r with hold := some 1 })).vehicle 0).hold ≠ none ∧ (yard.vehicle 0).hold = none ∧
    (damaged 0).damaged 0 = true ∧ yard.damaged 0 = false ∧
    accepts slot.bodies slot.drives (yard.vehicle 0).body (yard.vehicle 0).drive = true ∧
    accepts 15 1 (yard.vehicle 0).body (yard.vehicle 0).drive = false ∧ (yard.vehicle 0).state = .parked ∧
    (yard.vehicle 0).loc = .lane 1 1 ∧ yard.sessionPoint 0 = none ∧
    (charger (some .active) none (some session)).sessionPoint 0 = some 1 ∧ spot.callable 7 = true ∧
    (spot.vehicle 7).state = .inOverflow ∧ (spot.vehicle 7).loc = .overflow 1 ∧ (spot.vehicle 7).hold = none ∧
    yard.clean = true := by
  and_intros <;> first | decide +kernel | rfl
/-- Slot 1 has no vehicle of its own: of vehicle 7, unassigned, and vehicle 0, held for a later slot, 7 comes first. -/
theorem witness_AttemptPicksByRank :
    let own := duty 2 650 .assigned (some (0, 100)) none
    let open' := duty 1 600 .opened none none
    own.assigned = some (0, 100) ∧ (yard.vehicle? 0).isSome = true ∧ (yard.vehicle 0).state = .parked ∧ yard.callable 0 = true ∧
    (yard.vehicle 0).hold = none ∧ yard.damaged 0 = false ∧
    accepts own.bodies own.drives (yard.vehicle 0).body (yard.vehicle 0).drive = true ∧
    own.requirement ≤ (yard.vehicle 0).soe ∧ open'.assigned = none ∧ (yard.vehicle 7).assignment = none ∧
    (yard.vehicle 7).state = .inOverflow ∧ yard.callable 7 = true ∧ (yard.vehicle 0).assignment = some 2 ∧
    yard.slot 2 = some own ∧ open'.release < own.release ∧
    (∀ r ∈ yard.fleet.vehicles.rows, r.1 = 0 ∨ r.1 = 7 ∨ yard.callable r.1 = false) ∧
    (∀ r ∈ yard.fleet.vehicles.rows, accepts 15 0 r.2.body r.2.drive = false) := by
  and_intros <;> first | decide +kernel | rfl

/-- A slot calls its own vehicle; takes vehicle 7, held for none; takes vehicle 0 from slot 2, later in the plan or due
with it, which gets vehicle 2 in exchange or, taking no battery, nobody. -/
theorem witness_AttemptPassCallsAndSwaps :
    let own := rostered [duty 2 604 .assigned (some (0, 100)) none] yard
    let free := rostered [duty 1 604 .opened none none, duty 2 650 .assigned (some (0, 100)) none] yard
    let swap := fun (y : Slot) => rostered [duty 1 604 .assigned (some (2, 102)) none, y]
      (yard.updVehicle 7 (fun r => { r with hold := some 1 }))
    let later := swap (duty 2 650 .assigned (some (0, 100)) none)
    let both := swap (duty 2 605 .assigned (some (0, 100)) none)
    let none' := swap { duty 2 650 .assigned (some (0, 100)) none with drives := 1 }
    ({ yard with mode := .safe }).mode ≠ .running ∧ (∀ x ∈ yard.roster.active, yard.due x = false) ∧ own.mode = .running ∧
    own.roster.active.filter own.due = [duty 2 604 .assigned (some (0, 100)) none] ∧
    own.pick (duty 2 604 .assigned (some (0, 100)) none) = .own 0 ∧ (own.vehicle 0).loc = .lane 1 1 ∧
    free.roster.active.filter free.due = [duty 1 604 .opened none none] ∧ free.pick (duty 1 604 .opened none none) = .sub 7 ∧
    (free.vehicle 7).assignment = none ∧ (free.vehicle 7).loc = .overflow 1 ∧
    later.pick (duty 1 604 .assigned (some (2, 102)) none) = .sub 0 ∧ (later.vehicle? 2).isSome = true ∧
    later.roster.active.filter later.due = [duty 1 604 .assigned (some (2, 102)) none] ∧
    (later.vehicle 0).assignment = some 2 ∧ later.slot 2 = some (duty 2 650 .assigned (some (0, 100)) none) ∧
    both.pick (duty 1 604 .assigned (some (2, 102)) none) = .sub 0 ∧
    both.roster.active.filter both.due =
      [duty 1 604 .assigned (some (2, 102)) none, duty 2 605 .assigned (some (0, 100)) none] ∧
    accepts 15 3 (both.vehicle 2).body (both.vehicle 2).drive = true ∧
    none'.pick (duty 1 604 .assigned (some (2, 102)) none) = .sub 0 ∧
    accepts 15 1 (none'.vehicle 2).body (none'.vehicle 2).drive = false := by
  and_intros <;> first | decide +kernel | rfl

theorem witness_CallsTimeOutGracePasses :
    let called := fun (c : Call) => duty 3 640 .called (some (6, 106)) (some c)
    let overdue := { callRecord with deadline := 15000 }
    let late := fun (x : Slot) => rostered [x] yard
    yard.slot 3 = some (called callRecord) ∧ (called callRecord).call = some callRecord ∧ yard.now < callRecord.deadline ∧
    yard.slot 1 = some (duty 1 700 .opened none none) ∧ (late (called overdue)).slot 3 = some (called overdue) ∧
    (called overdue).assigned = some (6, 106) ∧ (yard.vehicle? 6).isSome = true ∧ yard.clock.isSet = true ∧
    overdue.deadline ≤ yard.now ∧ overdue.cleared = false ∧ overdue.place = .lane 2 3 ∧ { overdue with cleared := true }.cleared = true ∧
    (duty 1 585 .opened none none).release + yard.beh.grace = yard.clock.minute ∧
    (duty 1 584 .opened none none).release + yard.beh.grace < yard.clock.minute ∧
    (late { duty 1 584 .opened none none with drives := 0 }).pick { duty 1 584 .opened none none with drives := 0 } = .nobody ∧
    (late { duty 2 584 .assigned (some (0, 100)) none with drives := 0 }).pick
      { duty 2 584 .assigned (some (0, 100)) none with drives := 0 } = .nobody ∧
    ({ yard with mode := .safe }).mode ≠ .running ∧
    yard.clean = true := by
  and_intros <;> first | decide +kernel | rfl

/-! ### The yard bus -/

theorem witness_MessagesReceivedAndInterrupted_received :
    let queue := { yard with bus := { yard.bus with inbound := List.replicate 15 (report 6 0x13 [1, 1]) } }
    let fullQueue := { yard with bus := { yard.bus with inbound := List.replicate 16 (report 6 0x13 [1, 1]) } }
    yard.startup = false ∧ yard.bus.iface ≠ .sending ∧ (2#8).toNat = yard.geo.serviceAddr ∧ (3#8).toNat = yard.geo.energyAddr ∧
    (1#8).toNat = yard.geo.gateAddr ∧ (bytes [1, 1, 0, 0, 0, 9]).length = 6 ∧ (bytes [1, 1]).length = 2 ∧
    queue.bus.inbound.length < 16 ∧ 16 ≤ fullQueue.bus.inbound.length ∧ 1 ≤ (1#8).toNat ∧ (62#8).toNat ≤ 62 ∧
    at8 (bytes [1, 1, 0, 0, 0, 9]) 1 = 1 ∧ at8 (bytes [1, 2, 0, 0, 0, 9]) 1 = 2 ∧ at8 (bytes [1, 0, 0, 0, 0, 9]) 1 = 0 ∧
    3 ≤ at8 (bytes [1, 3, 0, 0, 0, 9]) 1 ∧ (0#8).toNat = 0 ∧ 62 < (63#8).toNat ∧ (9#8).toNat ≠ yard.geo.gateAddr ∧
    (9#8).toNat ≠ yard.geo.serviceAddr ∧ (9#8).toNat ≠ yard.geo.energyAddr ∧ (bytes [2, 6, 0x13, 2, 1, 1, 0]).foldl (· + ·) 0#8 ≠ 0#8 ∧
    (bytes [2, 254]).length < 5 ∧
    yard.clean = true := by
  and_intros <;> first | decide +kernel | rfl

/-- A message of each class, a SETPOINT, a POLL, a YARD STATE. -/
def msg (urgent : Bool) (body : OutBody) : OutMsg := { dest := 11, source := 2, urgent := urgent, body := body }
/-- The yard sending that message. -/
def sending (m : OutMsg) : State := { yard with bus := { yard.bus with iface := .sending, inFlight := some m } }
theorem witness_MessagesSent :
    let ready := fun (urgent normal : List OutMsg) => { yard with bus := { yard.bus with urgent := urgent, normal := normal } }
    let setpoint := msg false (.setpoint 1 40)
    yard.startup = false ∧ (sending setpoint).bus.iface = .sending ∧ State.reset.bus.freeSeen = false ∧ yard.bus.urgent = [] ∧
    yard.bus.normal = [] ∧ (ready [msg true (.yardState .running)] [setpoint]).bus.iface ≠ .sending ∧
    (ready [msg true (.yardState .running)] [setpoint]).bus.freeSeen = true ∧
    (ready [msg true (.yardState .running)] [setpoint]).bus.urgent = msg true (.yardState .running) :: [] ∧
    (ready [] [setpoint]).bus.urgent = [] ∧ (ready [] [setpoint]).bus.normal = setpoint :: [] ∧
    (sending setpoint).bus.inFlight = some setpoint ∧ setpoint.body = .setpoint 1 40 ∧ setpoint.body ≠ .poll ∧
    (msg false .poll).body = .poll ∧ (msg true (.yardState .running)).body = .yardState .running ∧
    (sending (msg false .poll)).bus.nodes.get? 11 = some .blank ∧ Node.blank.live ≠ .silent ∧
    yard.geo.cabinetNode (yard.geo.point 1).cabinet = (msg false .poll).dest ∧ (sending setpoint).bus.heldOver = [] ∧
    (sending setpoint).passes (settingsRecord 1) = true ∧ (sending (msg false .poll)).passes (settingsRecord 1) = true := by
  and_intros <;> first | decide +kernel | rfl
theorem witness_MessagesReceivedAndInterrupted_interrupted :
    let m := msg false .poll
    let answering := { yard with bus := { yard.bus with iface := .answering, answer := some (21, releasedAnswer 1 100) } }
    (sending m).bus.iface = .sending ∧ (sending m).bus.inFlight = some m ∧ (11#8).toNat = m.dest ∧ (1#8).toNat = yard.geo.gateAddr ∧
    (2#8).toNat = yard.geo.serviceAddr ∧ (sending m).bus.inbound.length < 16 ∧ (9#8).toNat ≠ yard.geo.gateAddr ∧
    (9#8).toNat ≤ m.dest ∧ m.dest < (12#8).toNat ∧ State.reset.startup = true ∧ yard.bus.iface = .idle ∧ yard.startup = false ∧
    (sending m).bus.answer = none ∧ answering.bus.iface = .answering ∧ answering.bus.iface ≠ .idle ∧
    answering.bus.answer = some (21, releasedAnswer 1 100) := by
  and_intros <;> first | decide +kernel | rfl

/-- The yard that is receiving a message to that address, begun as it was for it then. -/
def receiving (dest : Byte) (roles : List Role) : State :=
  { yard with bus := { yard.bus with iface := .receiving, receiving := some (dest, roles) } }
theorem witness_MessagesReceivedAndInterrupted_roles :
    (receiving 9 [.service]).bus.receiving = some (9, [.service]) ∧ (receiving 9 [.service]).clean = true ∧
    (receiving 9 [.service]).bus.iface ≠ .sending ∧ Role.service ∈ [Role.service] ∧ (9#8).toNat ≠ yard.geo.serviceAddr ∧
    Role.energy ∉ [Role.service] ∧ (receiving 2 []).bus.receiving = some (2, []) ∧
    (sending (msg false .poll)).passes (settingsRecord 1) = true := by
  and_intros <;> first | decide +kernel | rfl

/-- The yard with these messages in its outbound queue. -/
def outbound (urgent normal heldOver : List OutMsg) : State :=
  { yard with bus := { yard.bus with urgent := urgent, normal := normal, heldOver := heldOver } }
theorem witness_OutboundQueueAndSetpoints :
    let state := msg true (.yardState .running)
    let full := outbound (List.replicate 32 state) [] []
    let last := outbound (List.replicate 31 state) [msg false .poll] []
    (∀ r ∈ yard.bus.nodes.rows, r.2.poll = false) ∧ (msg true (.setpoint 1 5)).urgent = true ∧ (msg false (.setpoint 1 5)).urgent = false ∧
    yard.bus.urgent.length + yard.bus.normal.length < 32 ∧ 32 ≤ full.bus.urgent.length ∧ full.bus.normal = [] ∧
    32 ≤ last.bus.urgent.length + last.bus.normal.length ∧ last.bus.normal = [] ++ [msg false .poll] ∧
    (outbound (List.replicate 31 state) [msg false (.setpoint 2 5)] []).bus.normal = [] ++ [msg false (.setpoint 2 5)] ∧
    (msg false (.setpoint 2 5)).body ≠ .poll ∧ (msg true (.cancelCall (.lane 1 1) 3)).body = .cancelCall (.lane 1 1) 3 ∧
    (outbound [] [msg false (.call (.lane 1 1) 100 3 3)] []).bus.normal.length = 1 := by
  and_intros <;> first | decide +kernel | rfl
/-- Point 1 owes a SETPOINT, for its session or the 0 of a point without one; point 2 owes none. -/
theorem witness_OutboundQueueAndSetpoints_setpoints :
    let s := charger (some .active) none (some { session with grant := 40 })
    let idle := s.setPoint 1 { Point.blank with cond := some .idle, issued := none }
    s.bus.outFull = false ∧ s.bus.heldOver = [] ∧ (s.point 2).session = none ∧ (s.point 2).cond = none ∧
    s.session 1 = some { session with grant := 40 } ∧ (s.point 1).issued ≠ some 40 ∧ (s.point 1).held = some 0 ∧
    ((s.updPoint 1 (fun r => { r with held := none })).point 1).held = none ∧
    ((s.updPoint 1 (fun r => { r with issued := some 40 })).point 1).issued = some 40 ∧ (idle.point 1).issued = none ∧
    (idle.point 1).cond ≠ none ∧ idle.session 1 = none := by
  and_intros <;> first | decide +kernel | rfl

/-! ### The part -/

theorem witness_PartReadsChangeNothing :
    yard.ready = true ∧ (bytes []).length = 0 ∧ (bytes [0, 0, 1]).length = 3 ∧ planOf (at8 (bytes [0, 0, 1]) 0) = some .active ∧
    slotIn (yard.plan .active) (at16 (bytes [0, 0, 1]) 1) = some (duty 1 700 .opened none none) ∧ yard.passes 321 = true ∧
    yard.marked 321 = false ∧ (damaged 321).marked 321 = true ∧ (damaged 321).passes 321 = true ∧
    slotIn (yard.plan .active) (at16 (bytes [0, 0, 9]) 1) = none ∧ (bytes [0, 2]).length = 2 ∧ at8 (bytes [0, 2]) 1 = yard.geo.numBays ∧
    at8 (bytes [1, 2]) 1 = yard.geo.numWashes ∧ keyAt 0 17 0 = none ∧ keyAt 0 16 0 = some (.beh 16) ∧
    yard.passes (settingsRecord (placeOf (.beh 16))) = true ∧
    yard.clean = true := by
  and_intros <;> first | decide +kernel | rfl
theorem witness_ClockAdvances :
    let at' := fun (c : Clock) => { yard with clock := c }
    yard.pending = [] ∧ (at' .blank).clock.isSet = false ∧ yard.clock.isSet = true ∧
    (at' { yard.clock with seconds := 58 }).clock.seconds < 59 ∧ 59 ≤ (at' { yard.clock with seconds := 59 }).clock.seconds ∧
    yard.clock.minute ≠ 1439 ∧ lastMinute.clock.isSet = true ∧ lastMinute.clock.minute = 1439 ∧
    ({ lastMinute with roster := yard.roster }).roster.ready = false ∧ yard.ready = true ∧ (bytes [0, 1, 5, 159]).length = 4 ∧
    at16 (bytes [0, 1, 5, 159]) 2 = 1439 ∧ 1439 < at16 (bytes [0, 1, 5, 160]) 2 := by
  and_intros <;> first | decide +kernel | rfl
theorem witness_ClockAdvances_minute :
    let budget := fun (fresh : Bool) (d : Option Nat) =>
      { yard with energy := { yard.energy with budget := { fresh := fresh, last := some (300, .meter), deadline := d } } }
    let next : State := { yard with clock := { yard.clock with minute := yard.clock.minute + 1, seconds := 0 } }
    yard.clean = true ∧ yard.clock.minuteOwed = false ∧ yard.clock.minute < 1439 ∧ yard.bus.nodes.get? 11 = some .blank ∧
    yard.geo.cabinetNode 1 = 11 ∧ 1 ≤ yard.geo.numCabinets ∧ ({ yard with mode := .census }).mode = .census ∧
    (budget true none).energy.budget.deadline = none ∧ (budget true (some 15001)).energy.budget.fresh = true ∧
    (∀ b ∈ next.bayNums, next.bayDue b = false) ∧ (∀ l ∈ next.washNums, next.washDue l = false) ∧ next.dueMovements = [] ∧
    next.dueCalls = [] ∧ next.energy.budget.fresh = false ∧ lastMinute.clean = true ∧ lastMinute.clock.minuteOwed = false ∧
    lastMinute.roster.ready = true ∧ yard.clock.day < at16 (bytes [0, 11, 0, 1]) 0 ∧
    at16 (bytes [0, 1, 0, 1]) 0 + 32768 ≤ ({ yard with clock := { yard.clock with day := 40000 } }).clock.day ∧
    (¬ yard.clock.day < at16 (bytes [0, 10, 0, 1]) 0) ∧
    (∀ x ∈ (rostered [left] yard).roster.active, x.state = .gone) := by
  and_intros <;> first | decide +kernel | rfl
theorem witness_SettingsWrittenAndStored :
    let storing := { yard with store := { yard.store with snapshot := some yard.settings } }
    let spare := fun (x : Spare) (errors : List MemError) => { yard with faults := { yard.faults with spare := x, errors := errors } }
    yard.ready = true ∧ (bytes [0, 1, 0, 0, 2]).length = 5 ∧ keyAt 0 0 0 = none ∧ keyAt 0 1 0 = some (.beh 1) ∧
    keyAt 0 16 0 = some (.beh 16) ∧ yard.passes (settingsRecord (placeOf (.beh 1))) = true ∧
    (Key.beh 15).undefinedCode 2 = true ∧ (Key.beh 15).undefinedCode 1 = false ∧ (Key.beh 1).undefinedCode 2 = false ∧
    keyAt 1 1 1 = some (.laneDepth 1) ∧ (Key.laneDepth 1).isGeometry = true ∧ (Key.laneDepth 1).undefinedCode 3 = false ∧
    yard.passes (settingsRecord (placeOf (.laneDepth 1))) = true ∧ yard.mode ≠ .configure ∧ (Key.beh 1).isGeometry = false ∧
    storing.store.snapshot ≠ none ∧ yard.store.snapshot = none ∧ (bytes []).length = 0 ∧
    storing.store.snapshot = some yard.settings ∧ (spare (.copying 3) []).faults.spare = .copying 3 ∧
    (∀ e ∈ (spare (.copying 3) [{ record := 128, kind := .single }]).faults.errors, e.record / 32 ≠ 3) ∧
    (∀ b, b ≤ 35 → yard.faults.spare ≠ .copying b) ∧
    yard.clean = true := by
  and_intros <;> first | decide +kernel | rfl
theorem witness_SettingsWrittenAndStored_geometry :
    let s := { yard with mode := .configure }
    let spare := fun (k : ErrKind) (n : Nat) => { yard with faults := { yard.faults with
      spare := .copying 0, errors := [{ record := n, kind := k }] } }
    s.ready = true ∧ s.mode = .configure ∧ s.clean = true ∧ s.store.snapshot = none ∧
    keyAt 1 0 0 = some .numLanes ∧ Key.numLanes.isGeometry = true ∧ Key.numLanes.undefinedCode 1 = false ∧
    (s.lane 2).entries ≠ [] ∧ (s.lane 3).entries = [] ∧ keyAt 2 1 3 = some (.pointRating 1) ∧ keyAt 2 1 4 = some (.pointPmin 1) ∧
    keyAt 1 1 0 = some (.laneKind 1) ∧ (Key.laneKind 1).undefinedCode 2 = true ∧
    (charger (some .active) none (some session)).session 1 = some session ∧ keyAt 0 6 0 = some (.beh 6) ∧
    (spare .single 7).faults.spare = .copying 0 ∧ 7 / 32 = 0 ∧ (spare .single 7).marked 7 = false ∧
    (spare (.double none) 7).inUse 7 = true ∧ (spare (.double none) 20).inUse 20 = false := by
  and_intros <;> first | decide +kernel | rfl
theorem witness_NoticeEnablesReplaced :
    let body := fun (x : Nat) => bytes ([0xFF, 0xFF] ++ List.replicate 16 x)
    yard.ready = true ∧ (body 1).length = 18 ∧ (∀ i, i < 16 → at8 (body 1) (2 + i) ≤ 1) ∧ (1 : Nat) < at8 (body 2) (2 + 15) ∧
    (∃ t, exec .busSeenFree yard = .next t) := by
  and_intros <;> first | decide +kernel | exact ⟨_, rfl⟩
theorem witness_NoticesClearedLinesFollow : yard.ready = true ∧ (bytes [0, 0, 0xFF, 0xFF]).length = 4 := by decide +kernel
theorem witness_FaultsCapturedAndReleased :
    let stopped := { yard.report .x1 0 with mode := .safe }
    yard.faults.capture = none ∧ (∃ x, (yard.report .q1 0).faults.capture = some x ∧ x.code.cls < FaultCode.cls .l1) ∧
    (∃ x, (yard.report .q1 0).faults.capture = some x ∧ FaultCode.cls .m3 ≤ x.code.cls) ∧ yard.ready = true ∧
    (bytes [1]).length = 1 ∧ at8 (bytes [3]) 0 < 4 ∧ yard.mode ≠ .safe ∧ stopped.ready = true ∧
    (at8 (bytes [1]) 0).testBit 0 = true ∧ stopped.mode = .safe ∧ (∃ x, stopped.faults.capture = some x ∧ x.code = .x1) ∧
    stopped.clean = true := by
  and_intros <;> first | decide +kernel | exact ⟨_, rfl, by decide⟩
theorem witness_CensusAndConfigureEntered :
    let s := fun (mode : PartMode) => { rostered [] yard with mode := mode }
    let broken := { s .configure with settings := { yard.settings with geo := { plan with serviceAddr := 63 } } }
    (s .running).ready = true ∧ (bytes []).length = 0 ∧ (s .running).mode = .running ∧ (s .census).mode = .census ∧
    (s .configure).mode = .configure ∧ (s .census).mode ≠ .running ∧ broken.geo.ok = false ∧
    ({ s .configure with settings := .default }).geo.ok = true ∧ (∀ x ∈ (s .running).roster.active, x.state ≠ .called) ∧
    (s .running).fleet.vehicles.wf = true ∧
    yard.clean = true := by
  and_intros <;> first | decide +kernel | rfl
theorem witness_CensusFinishedSafeRestart :
    let s := fun (mode : PartMode) => { yard with mode := mode }
    yard.ready = true ∧ (bytes []).length = 0 ∧ yard.mode ≠ .census ∧ (s .census).mode = .census ∧ (s .census).clock.isSet = true ∧
    (s .census).geo.numLanes = 3 ∧ (s .census |>.lane 1).image = positionsOf ((s .census).lane 1).entries ∧
    ((s .census).updLane 1 (fun r => { r with image := 2 }) |>.lane 1).image ≠ positionsOf ((s .census).lane 1).entries ∧
    (s .safe).mode = .safe ∧ yard.mode = .running ∧ (s .configure).mode = .configure ∧
    ({ s .configure with settings := .default }).geo.ok = true ∧
    yard.clean = true := by
  and_intros <;> first | decide +kernel | rfl

/-- A state with one error in that record. -/
def erring (record : Nat) (kind : ErrKind) (s : State) : State :=
  { s with faults := { s.faults with errors := [{ record := record, kind := kind }] } }
theorem witness_RecordsCheckedAsRead_single :
    let s := fun (n : Nat) => erring n .single yard
    let worn := fun (spare : Spare) =>
      { s 0 with faults := { (s 0).faults with wear := ⟨[(0, { count := 7, worn := false })]⟩, spare := spare } }
    (s 0).clock.isSet = true ∧ (s 0).clock.minute < 1439 ∧ (s 0).ready = true ∧ (s 0).marked 0 = false ∧
    (bytes (byIndex 0)).length = 5 ∧ (s 0).select (bytes (byIndex 0)) = .ok 0 ∧
    (s 321).slot (at16 (bytes [0, 0, 1]) 1) = some (duty 1 700 .opened none none) ∧ (s 321).marked 321 = false ∧
    at8 (bytes [1]) 0 = 1 ∧ 1 ≤ (s 960).geo.numLanes ∧ 960 = 959 + 1 ∧ 1 ≤ (s 1024).geo.numPoints ∧
    (bytes [0, 16, 0]).length = 3 ∧ (s 1120).marked 1120 = false ∧
    ((worn .free).wear 0).worn = false ∧ (worn .free).beh.corrThreshold ≤ 8 ∧ (worn .free).faults.spare = .free ∧
    (worn (.serving 3)).faults.spare ≠ .free ∧ ¬ ((s 0).beh.corrThreshold ≤ min 255 (((s 0).wear 0).count + 1)) := by
  and_intros <;> first | decide +kernel | rfl
theorem witness_RecordsCheckedAsRead_double :
    let s := fun (n : Nat) (u : State) => erring n (.double none) u
    let apron := s 6 (yard.place 6 .departing .apron)
    let open' := s 1024 (charger (some .active) none (some session))
    let staged := s 322 { yard with roster := { yard.roster with active := [] } }
    (s 0 yard).ready = true ∧ (s 0 yard).marked 0 = false ∧ ((s 0 yard).vehicle? 0).isSome = true ∧
    ((s 0 yard).vehicle 0).state ≠ .departing ∧ (s 0 yard).sessionPoint 0 = none ∧
    (s 0 (charger (some .active) none (some session))).sessionPoint 0 = some 1 ∧
    (s 6 yard).select (bytes (byIndex 6)) = .ok 6 ∧ ((s 6 yard).vehicle 6).state = .departing ∧
    ((s 6 yard).vehicle 6).assignment = some 3 ∧
    (s 6 yard).slot 3 = some (duty 3 640 .called (some (6, 106)) (some callRecord)) ∧ ((s 6 yard).vehicle 6).loc ≠ .apron ∧
    (apron.vehicle 6).loc = .apron ∧ (s 322 yard).slot 2 = some (duty 2 650 .assigned (some (0, 100)) none) ∧
    (∀ y ∈ (s 322 yard).roster.active, y.record = 322 → y = duty 2 650 .assigned (some (0, 100)) none) ∧
    (s 322 yard).marked 322 = false ∧ (duty 2 650 .assigned (some (0, 100)) none).call = none ∧
    staged.roster.staged.find? (fun y => y.num == at16 (bytes [1, 0, 2]) 1) = some (duty 2 650 .assigned (some (0, 100)) none) ∧
    (∀ y ∈ staged.roster.active, y.record ≠ 322) ∧ (s 960 yard).marked (959 + 1) = false ∧
    (s 960 yard).fleet.vehicles.wf = true ∧ open'.session 1 = some session ∧ open'.marked (1023 + 1) = false ∧
    (open'.lane 1).at? 1 = some { vehicle := 0, pos := 1, mark := .settled } ∧ (open'.vehicle 0).state = .parked ∧
    (open'.point 1).cond = some .active ∧ (open'.point 1).stop ≠ some 0 ∧ (open'.vehicle 0).drive = .battery ∧
    ({ open' with mode := .census }).mode = .census ∧ (s 1120 yard).marked 1120 = false ∧ at8 (bytes [0, 16, 0]) 1 ≤ 16 := by
  and_intros <;> first | decide +kernel | rfl


/-! ### More clauses of the same statements -/

/-- A body of AMEND VEHICLE with those values; the others stand as the mask leaves them. -/
def amendTo (v mask fleet cls capacity soe acceptance hold : Nat) : Bytes :=
  bytes (byIndex v ++ [mask / 256, mask % 256, 0, fleet, 0, 0, 0, 200, cls, 1, capacity / 256, capacity % 256,
    soe / 256, soe % 256, 0, acceptance, 5, 1, 0, 9, hold, 15])
/-- The yard with vehicle 2, UNKNOWN, holding a slot for DIESEL vehicles. -/
def dieselSlot : State :=
  rostered [{ duty 4 700 .assigned (some (2, 102)) none with drives := 1 }]
    (yard.updVehicle 2 (fun r => { r with assignment := some 4, key := 700 }))
theorem witness_AmendChangesNamedFields_refusals :
    let body := amendTo 0 0x010 100 3 3000 1000 100 0
    let open' := charger (some .active) none (some session)
    yard.ready = true ∧ body.length = 27 ∧ yard.select body = .ok 0 ∧ yard.clean = true ∧ (damaged 0).clean = true ∧
    0x7FF < at16 (amendTo 0 0x800 100 3 3000 1000 100 0) 5 ∧ (damaged 0).damaged 0 = true ∧ at16 body 5 ≠ 0x7FF ∧
    at16 (amendTo 0 0x010 100 3 99 1000 100 0) 15 < 100 ∧ (yard.vehicle 0).drive = .battery ∧
    bodyOf (at8 (amendTo 0 0x004 100 3 3000 1000 100 0) 13) ≠ some (yard.vehicle 0).body ∧ (yard.vehicle 0).state = .parked ∧
    open'.sessionPoint 0 = some 1 ∧ at16 (amendTo 0 0x020 100 3 3000 999 100 0) 17 ≠ (open'.vehicle 0).soe ∧
    open'.clean = true ∧ ((yard.place 6 .departing .apron).vehicle 6).loc = .apron ∧
    (yard.place 6 .departing .apron).clean = true ∧ at8 (amendTo 6 0x200 106 3 3000 1000 100 1) 25 ≠ 0 ∧
    yard.byFleet (at16 (amendTo 0 0x001 101 3 3000 1000 100 0) 7) = some 1 ∧ (dieselSlot.vehicle 2).assignment = some 4 ∧
    (∃ x, dieselSlot.slot 4 = some x ∧ accepts x.bodies x.drives .artic .battery = false) ∧
    (dieselSlot.vehicle 2).body ≠ .artic ∧ dieselSlot.clean = true := by
  and_intros <;> first | decide +kernel | rfl | exact ⟨_, rfl, by decide⟩
theorem witness_AmendChangesNamedFields_effects :
    let open' := charger (some .active) none (some session)
    open'.sessionPoint 0 ≠ none ∧ open'.clean = true ∧ at16 (amendTo 0 0x040 100 0 3000 1000 90 0) 19 ≠ (open'.vehicle 0).acceptance ∧
    yard.sessionPoint 0 = none ∧ at16 (amendTo 0 0x020 100 0 3000 900 100 0) 17 ≠ (yard.vehicle 0).soe ∧
    yard.pointNums.find? (fun q => yard.parkedAt q == some 0) = some 1 ∧ (yard.point 1).state = .offline ∧
    (yard.point 1).session = none ∧ yard.select (amendTo 6 0x200 106 0 3000 1000 100 1) = .ok 6 ∧
    (at16 (amendTo 6 0x200 106 0 3000 1000 100 1) 5).testBit 9 = true ∧ (yard.vehicle 6).state = .departing ∧
    (yard.vehicle 6).assignment = some 3 ∧ yard.slot 3 = some (duty 3 640 .called (some (6, 106)) (some callRecord)) ∧
    callRecord.place = .lane 2 3 ∧ (yard.vehicle 6).loc = .lane 2 3 ∧ yard.bus.outFull = false ∧ yard.bus.heldOver = [] := by
  and_intros <;> first | decide +kernel | rfl

theorem witness_RewriteClearsDamage_arrival :
    let s := { charger (some .connected) none none with faults := { yard.faults with marks := [0] } }
    s.clean = true ∧ (s.vehicle 0).state = .parked ∧ (s.vehicle 0).loc = .lane 1 1 ∧ s.pointAt 1 1 = some 1 ∧
    s.parkedAt 1 = some 0 ∧ at8 (amend 0 0x7FF 100 200 3 1) 14 = 1 ∧ (s.point 1).session = none ∧ s.mode = .running ∧
    s.clock.isSet = true ∧ (s.point 1).state = .connected ∧ ((damaged 0).point 1).state = .offline ∧
    (damaged 0).parkedAt 1 = some 0 := by
  and_intros <;> first | decide +kernel | rfl

/-- Each reason for which R42 skips a wash, and each place that placement then chooses. -/
theorem witness_BayDoneServed_skipped :
    let s := fun (u : State) => bayReport 1 2 203 u
    let due := fun (key : Nat) => yard.updVehicle 3 (fun r => { r with lastWash := some 7, key := key })
    let shut := ((due 1440).setWash 1 { Wash.blank with state := .closed }).setWash 2 { Wash.blank with state := .closed }
    (s yard).clean = true ∧ (s yard).bus.inbound = [report 5 0x12 [1, 2, 0, 0, 0, 203]] ∧ (s yard).mode = .running ∧
    ((s yard).bay 1).state = .serving ∧ ((s yard).bay 1).occupant = some 3 ∧ ((s yard).vehicle? 3).isSome = true ∧
    ((s yard).vehicle 3).state = .inBay ∧ ((s yard).vehicle 3).lastWash = some 9 ∧
    (s yard).clock.day < 9 + ((s yard).vehicle 3).washInterval ∧ ¬ 10 < 7 + ((s (due 600)).vehicle 3).washInterval ∧
    ((s (due 600)).vehicle 3).key < (s (due 600)).clock.minute + (s (due 600)).beh.washSkip ∧
    (∀ l, l ≤ 2 → (s shut).washTakes l = false) ∧ (s shut).clean = true ∧ 0 < (s (due 660)).needOf 3 ∧
    ((s (due 660)).vehicle 3).drive = .battery ∧ (s (due 660)).clock.minute + (s (due 660)).beh.washSkip ≤ 660 ∧
    660 < (s (due 660)).clock.minute + (s (due 660)).beh.washSkip + (s (due 660)).chargeMinutes 3 ∧
    (s yard).chooseBerth 3 = .lane 1 false ∧ (s (crowded [(1, .held 7)])).chooseBerth 3 = .spot 2 ∧
    (s (crowded [(1, .held 7), (2, .held 2)])).chooseBerth 3 = .nowhere := by
  and_intros <;> first | decide +kernel | rfl

theorem witness_FreedBayTurnsAndAdmits_keys :
    let late := yard.updVehicle 2 (fun r => { r with key := 5 })
    0 < yard.beh.refPower ∧ (yard.vehicle 2).assignment = none ∧ (yard.vehicle 0).assignment = some 2 ∧
    yard.slot 2 = some (duty 2 650 .assigned (some (0, 100)) none) ∧ (yard.vehicle 1).drive = .diesel ∧
    (yard.vehicle 2).drive = .battery ∧ (late.vehicle 2).key ≤ late.chargeMinutes 2 ∧
    yard.chargeMinutes 2 ≤ (yard.vehicle 2).key := by
  and_intros <;> first | decide +kernel | rfl
/-- Vehicle 5 leaves pad spot 1 for bay 1; vehicle 1, a DIESEL, is admitted from gate 1, and vehicle 2 moves up there. -/
theorem witness_FreedBayTurnsAndAdmits_admits :
    let s := bayReport 1 3 203 (atBay (fun r => { r with state := .finished, onward := true })
      { (yard.place 1 .atGate (.gateQueue 1 1)).place 2 .atGate (.gateQueue 1 2) with
        service := { yard.service with
          gate1 := [{ vehicle := 1, arrival := 14970 }, { vehicle := 2, arrival := 14980 }] } })
    s.clean = true ∧ s.bus.inbound = [report 5 0x12 [1, 3, 0, 0, 0, 203]] ∧ (s.bay 1).state = .finished ∧
    (s.bay 1).onward = true ∧ (s.bay 1).closing = false ∧ s.service.pad.wf = true ∧
    s.service.pad.rows = [(1, { vehicle := 5, arrival := 14990 })] ∧ (s.vehicle 5).loc = .pad 1 ∧
    (s.vehicle 1).loc = .gateQueue 1 1 ∧ (s.vehicle 2).loc = .gateQueue 1 2 ∧ (s.geo.bay 1).kind = .fuel ∧
    s.gateQueue 1 = { vehicle := 1, arrival := 14970 } :: [{ vehicle := 2, arrival := 14980 }] ∧
    (s.gateQueue 2).head? = none ∧ 1 ≤ s.geo.padCapacity ∧ (s.bay 2).state = .free ∧ (s.geo.bay 2).kind ≠ .fuel ∧
    (s.vehicle 1).drive ≠ .battery ∧ s.geo.numBays = 2 ∧ s.bus.normal = [] ∧ s.bus.urgent = [] := by
  and_intros <;> first | decide +kernel | rfl

/-- Vehicles 2 and 7 wait for wash lane 1, which fails; the other lane is empty, full, or closed. -/
theorem witness_WashEnteredClearFaultRestored_queue :
    let s := fun (u : State) (q : List WashEntry) => washReport 1 4
      (((u.place 2 .toWash (.washQueue 1 1)).place 7 .toWash (.washQueue 1 2)).setWash 1 { Wash.blank with queue := q })
    let both := s yard [queued 2 (some 15005), queued 7 none]
    let room := s (yard.setWash 2 { Wash.blank with state := .washing, occupant := some 4, queue := [queued 3 none, queued 5 none] })
      [queued 2 (some 15005), queued 7 none]
    let shut := fun (u : State) => s (u.setWash 2 { Wash.blank with state := .closed }) [queued 2 (some 15005)]
    both.clean = true ∧ both.bus.inbound = [report 6 0x13 [1, 4]] ∧ (both.wash 1).state = .idle ∧
    (both.wash 1).queue = [queued 2 (some 15005), queued 7 none] ∧ (both.vehicle 2).state = .toWash ∧
    (both.vehicle 2).loc = .washQueue 1 1 ∧ (both.vehicle 7).loc = .washQueue 1 2 ∧ both.washTakes 2 = true ∧
    (both.wash 2).queue = [] ∧ (room.wash 2).queue.length = 2 ∧ room.washTakes 2 = true ∧
    (shut yard).washTakes 2 = false ∧ ((shut yard).wash 1).queue = [queued 2 (some 15005)] ∧
    (shut yard).chooseBerth 2 = .lane 1 false ∧ (shut (crowded [(1, .held 7)])).chooseBerth 2 = .spot 2 ∧
    room.chooseBerth 7 = .lane 1 false ∧ (s (crowded [(1, .held 7)]) []).chooseBerth 7 = .spot 2 ∧
    (shut (crowded [(1, .held 7), (2, .held 3)])).chooseBerth 2 = .nowhere ∧
    (shut (crowded [(1, .held 7), (2, .held 3)])).yard.stranded = [] := by
  and_intros <;> first | decide +kernel | rfl

/-- A vehicle in each place from which it may leave uncalled. -/
theorem witness_GateOutReleasesOrOtherwise_elsewhere :
    let gate := { yard.place 2 .atGate (.gateQueue 1 1) with
      service := { yard.service with gate1 := [{ vehicle := 2, arrival := 14980 }] } }
    let toBay := (yard.place 3 .toBay (.bay 1)).setBay 1 { Bay.blank with state := .awaiting, occupant := some 3, closing := true }
    let toWash := (yard.place 2 .toWash (.washQueue 1 1)).setWash 1
      { Wash.blank with state := .washing, occupant := some 4, queue := [queued 2 none] }
    let stranded := fun (v : Nat) (loc : Loc) => { yard.place v .stranded loc with yard := { yard.yard with stranded := [v] } }
    let berth := (yard.place 2 .toBerth (.lane 3 1)).setLane 3 (oneEntry 2 1 (.arriving 15005) 0)
    let source := berth.setLane 1 (oneEntry 2 1 (.leavingMove 15005 false) 1)
    let spot := (yard.place 2 .toBerth (.overflow 2)).setSpot 2 (some (.reserved 2 15005))
    yard.clean = true ∧ yard.hears 21 ∧ yard.byTag 203 = some 3 ∧ (yard.vehicle 3).state = .inBay ∧
    (yard.bay 1).state = .serving ∧ (gate.vehicle 2).state = .atGate ∧ (gate.vehicle 2).loc = .gateQueue 1 1 ∧
    gate.gateQueue 1 = [{ vehicle := 2, arrival := 14980 }] ∧ (yard.vehicle 5).state = .onPad ∧ (yard.vehicle 5).loc = .pad 1 ∧
    yard.service.gate1 = [] ∧ yard.service.gate2 = [] ∧ (toBay.vehicle 3).state = .toBay ∧ (toBay.bay 1).closing = true ∧
    (toBay.bay 1).state = .awaiting ∧ (toWash.vehicle 2).state = .toWash ∧ (toWash.wash 1).state ≠ .idle ∧
    (yard.vehicle 4).state = .washing ∧ (yard.vehicle 4).loc = .wash 1 ∧ (yard.wash 1).state = .washing ∧
    (yard.wash 1).queue = [] ∧ ((stranded 4 (.wash 1)).wash 1).occupant = some 4 ∧
    ((stranded 2 (.wash 1)).wash 1).occupant ≠ some 2 ∧ ((stranded 3 (.bay 1)).vehicle 3).loc = .bay 1 ∧
    (berth.vehicle 2).loc = .lane 3 1 ∧ (∃ e ∈ (berth.lane 3).entries, e.vehicle = 2 ∧ e.pos = 1) ∧
    (∃ e ∈ (source.lane 1).entries, e.vehicle = 2 ∧ e.mark = .leavingMove 15005 false) ∧
    (spot.vehicle 2).loc = .overflow 2 ∧ spot.spot 2 = some (.reserved 2 15005) ∧ (yard.vehicle 7).state = .inOverflow ∧
    yard.spot 1 = some (.held 7) := by
  and_intros <;> first | decide +kernel | rfl

/-- The worked case has four sessions that take part, and none becomes INCOMPATIBLE; a cabinet that accepts less than the
minimum run power makes one so. -/
theorem witness_AllocationSharesAndGrades_passes :
    let weak := (charger (some .active) none (some session)).updPoint 1 (fun r => { r with accept := some 5 })
    (∀ p ∈ [2, 4, 9, 11], (worked5.recompute.session p).any (fun x =>
      decide ((worked5.vehicle x.vehicle).soe < x.target) && !x.incompat) = true) ∧
    (∀ p ∈ [2, 4, 9, 11], (worked5.recompute.session p).any (·.incompat) = false) ∧ worked5.bus.heldOver = [] ∧
    worked5.bus.outCount + worked5.geo.numPoints < Config.outboundMax ∧ weak.session 1 = some session ∧
    (weak.vehicle 0).soe < session.target ∧ session.incompat = false ∧
    (weak.recompute.session 1).any (·.incompat) = true := by
  and_intros <;> first | decide +kernel | rfl

theorem witness_SlotsAddedAndAmended_unsuited :
    let body := bytes [0, 0, 2, 8, 0, 0, 0, 0, 0, 1, 0, 0, 0]
    yard.ready = true ∧ body.length = 13 ∧ planOf (at8 body 0) = some .active ∧ yard.clean = true ∧
    slotIn (yard.plan .active) (at16 body 1) = some (duty 2 650 .assigned (some (0, 100)) none) ∧
    (at8 body 3).testBit 3 = true ∧ yard.fleetOf 0 = 100 ∧ (yard.vehicle? 0).isSome = true ∧
    accepts 15 (BitVec.ofNat 8 (at8 body 9)) (yard.vehicle 0).body (yard.vehicle 0).drive = false := by
  and_intros <;> first | decide +kernel | rfl

/-- Vehicle 0, whose entry is at position 2, is named at position 1, and closing is pending: still an entry leaves. -/
theorem witness_VerifyRebuildsLane_retried :
    let s := toVerify.updLane 1 (fun r =>
      { r with closing := true, entries := [{ vehicle := 0, pos := 2, mark := .settled }] })
    (s.lane 1).closing = true ∧ (∃ e ∈ (s.lane 1).entries, ∀ x ∈ [((1 : Nat), (100 : Nat))],
      ¬ (s.byFleet x.2 = some e.vehicle ∧ x.1 = e.pos)) ∧ s.clean = true := by
  and_intros <;> first | decide +kernel | rfl

/-- CENSUS with a vehicle on the pad that bay 2 serves and a DIESEL at gate 1; with an empty pad and one vehicle at each gate;
and with the plug in at vehicle 0's point. -/
theorem witness_CensusFinishedSafeRestart_begins :
    let s := { yard with mode := .census }
    let gate1 : State := { s.place 1 .atGate (.gateQueue 1 1) with
      service := { s.service with gate1 := [{ vehicle := 1, arrival := 14970 }] } }
    let gates : State := { (s.updVehicle 2 (fun r => { r with drive := .diesel, state := .atGate, loc := .gateQueue 2 1 })).place
        1 .atGate (.gateQueue 1 1) with
      service := { s.service with
        pad := .empty, gate1 := [{ vehicle := 1, arrival := 14970 }], gate2 := [{ vehicle := 2, arrival := 14970 }] } }
    let plug : State := { charger (some .connected) none none with mode := .census }
    s.ready = true ∧ s.clock.isSet = true ∧ s.clean = true ∧ s.yard.stranded = [] ∧ s.service.pad.wf = true ∧
    gate1.service.pad.rows = [(1, { vehicle := 5, arrival := 14990 })] ∧ (gate1.vehicle 5).loc = .pad 1 ∧
    (gate1.bay 1).state ≠ .free ∧ (gate1.bay 2).state = .free ∧ (gate1.vehicle 5).drive = .battery ∧
    gate1.service.gate2 = [] ∧ (gate1.vehicle 1).loc = .gateQueue 1 1 ∧ (gate1.vehicle 1).drive ≠ .battery ∧
    (gate1.geo.bay 2).kind ≠ .fuel ∧ gates.service.pad = .empty ∧ gates.gateQueue 1 = [{ vehicle := 1, arrival := 14970 }] ∧
    gates.gateQueue 2 = [{ vehicle := 2, arrival := 14970 }] ∧ (gates.vehicle 2).loc = .gateQueue 2 1 ∧
    (gates.vehicle 2).drive ≠ .battery ∧ 2 ≤ gates.geo.padCapacity ∧ gates.clean = true ∧
    (plug.point 1).state = .connected ∧ (plug.point 1).session = none ∧ plug.parkedAt 1 = some 0 ∧
    (plug.vehicle 0).drive = .battery ∧ plug.damaged 0 = false ∧ plug.clean = true := by
  and_intros <;> first | decide +kernel | rfl
/-! ### Calls, wraps and the stations of PLACE VEHICLE -/

/-- A check that `State.callsPlain` follows from. -/
def callsOwn (s : State) : Bool :=
  decide (s.roster.active.Pairwise (fun x y =>
    x.num ≠ y.num ∧ (x.state = .called → y.state = .called → x.assigned.map (·.1) ≠ y.assigned.map (·.1)))) &&
  s.roster.active.all (fun x => x.state != .called ||
    (match x.assigned, x.call with
      | some (v, _), some _ => (s.vehicle? v).isSome && (s.vehicle v).state == .departing
      | _, _ => false))
theorem callsPlain_of_callsOwn (s : State) (h : callsOwn s = true) : s.callsPlain := by
  simp only [callsOwn, Bool.and_eq_true, decide_eq_true_eq, List.all_eq_true] at h
  refine ⟨h.1.imp fun {x y} hxy => ⟨hxy.1, fun v f g c d hx hy => hxy.2 hx.1 hy.1 (by simp [hx.2.1, hy.2.1])⟩, fun x hx hc => ?_⟩
  have := h.2 x hx
  revert this
  split <;> simp_all [Slot.calls]

/-- Beside vehicle 6 in its lane, vehicle 7 is called from spot 1, and vehicle 2 has been called and is at APRON. -/
def calling : State :=
  let call := fun (place : Place) (cleared : Bool) => { callRecord with place := place, cleared := cleared }
  rostered [duty 3 640 .called (some (6, 106)) (some callRecord), duty 2 650 .assigned (some (0, 100)) none,
    duty 4 660 .called (some (7, 107)) (some (call (.spot 1) false)),
    duty 5 680 .called (some (2, 102)) (some (call (.lane 3 1) true)), duty 1 700 .opened none none]
    ((yard.updVehicle 7 (fun r => { r with state := .departing, assignment := some 4, key := 660 })).updVehicle 2 (fun r =>
      { r with state := .departing, loc := .apron, assignment := some 5, key := 680 }))
/-- Each of the states in which calls are withdrawn or settled. -/
theorem witness_callsPlain :
    (∀ mode, { calling with mode := mode }.callsPlain) ∧ (∀ c, { yard with clock := c }.callsPlain) ∧
    lastMinute.callsPlain ∧ (calling.report .x1 0).callsPlain ∧ { calling with settings := .default }.callsPlain :=
  ⟨fun _ => callsPlain_of_callsOwn calling (by decide +kernel), fun _ => callsPlain_of_callsOwn yard (by decide +kernel),
    callsPlain_of_callsOwn _ (by decide +kernel), callsPlain_of_callsOwn _ (by decide +kernel),
    callsPlain_of_callsOwn _ (by decide +kernel)⟩
theorem witness_calls_withdrawn_or_settled :
    calling.clean = true ∧ calling.fleet.vehicles.wf = true ∧
    (calling.vehicle 7).loc ≠ .apron ∧ (calling.vehicle 2).loc = .apron ∧ (∀ p, p ≤ 2 → yard.session p = none) ∧
    yard.bus.urgent = [] ∧ yard.bus.normal = [] ∧ yard.bus.heldOver = [] ∧ yard.bus.outFull = false ∧
    (∀ y ∈ yard.roster.active, y.state = .called → y = duty 3 640 .called (some (6, 106)) (some callRecord)) ∧
    (duty 3 640 .called (some (6, 106)) (some callRecord)).calls 6 106 callRecord ∧
    { calling with settings := .default }.geo.ok = true ∧ (calling.report .x1 0).ready = true ∧
    (∃ x, (calling.report .x1 0).faults.capture = some x ∧ x.code = .x1) := by
  and_intros <;> first | decide +kernel | rfl | exact ⟨_, rfl, by decide⟩

/-- The occupant of bay 1 as the bay fails under it, and one on its way to a bay that has failed. -/
theorem witness_BayArrivedFaultRestored_placed :
    let fails := fun (u : State) => bayReport 1 4 203 u
    let arrives := fun (u : State) => bayReport 1 1 203
      ((u.place 3 .toBay (.bay 1)).setBay 1 { Bay.blank with state := .faulted, occupant := some 3, deadline := some 15005 })
    (fails yard).clean = true ∧ (fails yard).bus.inbound = [report 5 0x12 [1, 4, 0, 0, 0, 203]] ∧
    (report 5 0x12 [1, 4, 0, 0, 0, 203]).isBay 4 1 ∧ ((fails yard).bay 1).state = .serving ∧
    ((fails yard).bay 1).occupant = some 3 ∧ ((fails yard).vehicle 3).state = .inBay ∧ (fails yard).mode = .running ∧
    ({ fails yard with mode := .safe }).mode ≠ .running ∧ (fails yard).chooseBerth 3 = .lane 1 false ∧
    (fails (crowded [(1, .held 7)])).chooseBerth 3 = .spot 2 ∧
    (fails (crowded [(1, .held 7), (2, .held 2)])).chooseBerth 3 = .nowhere ∧ (fails yard).bus.outFull = false ∧
    (report 5 0x12 [1, 1, 0, 0, 0, 203]).isBay 1 1 ∧ ((arrives yard).bay 1).state = .faulted ∧
    ((arrives yard).bay 1).onward = false ∧ ((arrives yard).vehicle 3).state = .toBay ∧ (arrives yard).byTag 203 = some 3 ∧
    (arrives yard).chooseBerth 3 = .lane 1 false ∧ (arrives (crowded [(1, .held 7)])).chooseBerth 3 = .spot 2 ∧
    (arrives (crowded [(1, .held 7), (2, .held 2)])).chooseBerth 3 = .nowhere ∧ (arrives yard).clean = true := by
  and_intros <;> first | decide +kernel | rfl

/-- A vehicle at each station, to be placed in lane 3; bay 1 also as it waits to be closed. -/
theorem witness_PlaceVehicleInCensus_stations :
    let s := { yard with mode := .census }
    let gate := { s.place 2 .atGate (.gateQueue 1 1) with
      service := { s.service with gate1 := [{ vehicle := 2, arrival := 14980 }, { vehicle := 1, arrival := 14985 }] } }
    let toBay := (s.place 3 .toBay (.bay 1)).setBay 1 { Bay.blank with state := .awaiting, occupant := some 3, closing := true }
    let toWash := (s.place 2 .toWash (.washQueue 1 1)).setWash 1
      { Wash.blank with state := .washing, occupant := some 4, queue := [queued 2 none, queued 1 none] }
    let shut := s.updWash 1 (fun w => { w with closing := true })
    let stranded := fun (v : Nat) (loc : Loc) => { s.place v .stranded loc with yard := { s.yard with stranded := [v] } }
    let body := fun (fleet : Nat) => bytes [0, fleet, 7, 3, 2]
    (∀ f ∈ [102, 103, 104, 105], s.byFleet (at16 (body f) 0) = some (f - 100) ∧ (s.vehicle (f - 100)).body ≠ .artic) ∧
    (s.lane 3).at? 2 = none ∧ s.clean = true ∧ (gate.vehicle 2).state = .atGate ∧ (gate.vehicle 2).loc = .gateQueue 1 1 ∧
    (gate.gateQueue 1).filter (fun x => x.vehicle != 2) = [{ vehicle := 1, arrival := 14985 }] ∧ (gate.vehicle? 1).isSome = true ∧
    (s.vehicle 5).state = .onPad ∧ (s.vehicle 5).loc = .pad 1 ∧ (toBay.vehicle 3).state = .toBay ∧
    (toBay.bay 1).state = .awaiting ∧ (s.vehicle 3).state = .inBay ∧ (s.vehicle 3).loc = .bay 1 ∧ (s.bay 1).state = .serving ∧
    ((stranded 3 (.bay 1)).vehicle 3).state = .stranded ∧ ((stranded 3 (.bay 1)).vehicle 3).loc = .bay 1 ∧
    (toWash.vehicle 2).state = .toWash ∧ (toWash.vehicle 2).loc = .washQueue 1 1 ∧
    (toWash.wash 1).queue.filter (fun x => x.vehicle != 2) = [queued 1 none] ∧ (s.vehicle 4).state = .washing ∧
    (s.vehicle 4).loc = .wash 1 ∧ (s.wash 1).occupant = some 4 ∧ (s.wash 1).state = .washing ∧ (shut.wash 1).queue = [] ∧
    (shut.wash 1).closing = true ∧ ((stranded 4 (.wash 1)).wash 1).occupant = some 4 ∧
    ((stranded 2 (.wash 1)).wash 1).occupant ≠ some 2 ∧ ((stranded 2 (.wash 1)).vehicle 2).loc = .wash 1 ∧
    ((s.place 2 .toBerth (.lane 1 2)).vehicle 2).state = .toBerth := by
  and_intros <;> first | decide +kernel | rfl

/-- The last minute of the last day before the wrap, with no slot CALLED, and a clock set back by more than half the days. -/
theorem witness_ClockAdvances_wraps :
    let s := fun (u : State) => { u with clock := { u.clock with day := 65535, minute := 1439 } }
    let back := { yard with clock := { yard.clock with day := 40000 } }
    (s yard).clock.isSet = true ∧ (s yard).clean = true ∧ (∀ x ∈ (s (rostered [left] yard)).roster.active, x.state ≠ .called) ∧
    (∀ l, l ≤ 3 → (yard.lane l).inversions = 0) ∧ back.ready = true ∧
    back.clean = true ∧ (bytes [0, 9, 0, 1]).length = 4 ∧ at16 (bytes [0, 9, 0, 1]) 2 ≤ 1439 ∧
    at16 (bytes [0, 9, 0, 1]) 0 + 32768 ≤ back.clock.day ∧
    yard.slot 3 = some (duty 3 640 .called (some (6, 106)) (some callRecord)) := by
  and_intros <;> first | decide +kernel | rfl

/-- Messages of each class wait, one held over, while the part sends; a cabinet that is SILENT already. -/
theorem witness_MessagesSent_waiting :
    let s := fun (m : OutMsg) => { sending m with bus := { (sending m).bus with
      urgent := List.replicate 31 (msg true (.yardState .running)), normal := [msg false (.setpoint 2 5)]
      heldOver := [msg true (.yardState .running)] } }
    let silent := fun (u : State) => { u with bus := { u.bus with nodes := ⟨[(11, { Node.blank with live := .silent })]⟩ } }
    (s (msg false .poll)).startup = false ∧ (s (msg false .poll)).bus.iface = .sending ∧
    (s (msg false .poll)).bus.inFlight = some (msg false .poll) ∧ (s (msg false .poll)).bus.heldOver ≠ [] ∧
    (s (msg false .poll)).passes (settingsRecord 1) = true ∧
    (silent (s (msg false .poll))).bus.nodes.get? 11 = some { Node.blank with live := .silent } ∧
    (s (msg false (.setpoint 1 40))).bus.inFlight = some (msg false (.setpoint 1 40)) := by
  and_intros <;> first | decide +kernel | rfl

/-- The record of the counts without an error, for a lane or a spot that is not configured. -/
theorem witness_counts_read : yard.passes (settingsRecord 1) = true ∧ yard.geo.numLanes < 4 ∧ yard.geo.numSpots < 3 := by
  decide +kernel

/-! ### Small cases worked out from the rules -/

/-- What a command leaves, for a look at one field of it. -/
def after {α : Type} (c : Instr) (s : State) (f : State → α) : Option α :=
  match exec c s with
  | .next t => some (f t)
  | _ => none

/-- R151: a start bit 0, eight data bits, low bit first, even parity, a stop bit 1. -/
theorem test_characters : charOf 0x03#8 = 0x406#11 ∧ charOf 0x01#8 = 0x602#11 := by decide
/-- R151: one line bit of the parity turned over spoils a character. -/
theorem test_parity_is_checked :
    (RxChar.ofByte 3).good = true ∧ ({ line := (RxChar.ofByte 3).line ^^^ 0x100#10 } : RxChar).good = false := by decide
/-- R155, R156: a BUSY answer's length, code, status and tag. -/
theorem test_busy_answer_bytes : (busyTo 4 9).frame.take 5 = [0xA5#8, 3#8, 4#8, 1#8, 9#8] := by decide +kernel
/-- R27, R194: a bay report of event 0 does not stay in the queue. -/
theorem test_undefined_report_goes :
    after (.reportReceived (bytes [2, 5, 0x12, 6, 1, 0, 0, 0, 0, 9, 0xD7])) yard (fun t => (t.bus.inbound, t.bus.iface)) =
      some ([], .idle) := by decide +kernel
/-- R150: a message begun under the old SERVICE address is received under it. -/
theorem test_received_under_old_address :
    after (.reportReceived (bytes [9, 5, 0x13, 2, 1, 1, 0xDB])) (receiving 9 [.service]) (fun t => t.bus.inbound.length) =
      some 1 := by decide +kernel
/-- R141: the CANCEL CALL goes to the node that was sent the CALL, whatever the lane's node is now. -/
theorem test_cancel_follows_the_call :
    after (.holdVehicle 1 (bytes (byIndex 6 ++ [1])))
      { yard with settings := { yard.settings with geo := plan.updLane 2 (fun r => { r with node := 30 }) } }
      (fun t => t.bus.urgent.map (·.dest)) = some [4] := by decide +kernel
/-- R63: a move from lane 1 that ended in lane 3 is not the move that now goes on to spot 2: lane 1's berth empties, and
vehicle 0 stays TO-BERTH. -/
theorem test_ended_move_confirms_nothing :
    after (.laneReport false) (heard 4 0x14 [0, 0] ((yard.place 0 .toBerth (.overflow 2)).setLane 1
      (oneEntry 0 1 (.leavingMove 15005 true) 1))) (fun t => ((t.vehicle 0).state, (t.lane 1).entries)) =
      some (.toBerth, []) := by decide +kernel
/-- R53, R60, R67: a VERIFY LANE that closes its lane and frees a spot brings the stranded vehicle to that spot. -/
theorem test_verify_frees_a_spot :
    after (.verifyLane 1 (bytes [1, 1, 1, 0, 100]))
      (let s := ((crowded [(1, .held 7), (2, .held 0)]).place 0 .toBerth (.lane 1 1)).place 3 .stranded (.bay 1)
       { s.updLane 1 (fun r => { r with state := .unverified, closing := true }) with
         yard := { (s.updLane 1 (fun r => { r with state := .unverified, closing := true })).yard with stranded := [3] } })
      (fun t => ((t.lane 1).state, (t.vehicle 3).loc)) = some (.closed, .overflow 2) := by decide +kernel
/-- R64: two movements of one vehicle that are due both expire in one minute. -/
theorem test_due_movements_expire :
    after (.minuteEvent []) (((yard.place 2 .toBerth (.lane 3 1)).setLane 3 (oneEntry 2 1 (.arriving 15001) 0)).setLane 1
      (oneEntry 2 1 (.leavingMove 15000 true) 1)) (fun t => ((t.lane 3).entries, (t.lane 1).entries)) =
      some ([], []) := by decide +kernel
/-- R18, R171: a single error is corrected as READ VEHICLE reads the record, and counted in its bank. -/
theorem test_single_error_is_corrected :
    after (.readVehicle 1 (bytes (byIndex 0))) (erring 0 .single yard) (fun t => (t.faults.errors, (t.wear 0).count)) =
      some ([], 1) := by decide +kernel
/-- R74, R157, R171: a MOVE VEHICLE refused for the vehicle's state leaves the record of the destination lane unread. -/
theorem test_refused_move_reads_no_lane :
    after (.moveVehicle 1 (bytes [0, 101, 7, 3])) (erring (laneRecord 3) (.double none) yard) (fun t =>
      (match t.link.service with | .inService r none => some r.status | _ => none, t.faults.errors.length, t.faults.marks)) =
      some (some .wrongState, 1, []) := by decide +kernel
/-- R80, R93, R171: a cabinet that goes silent reads the vehicle PARKED at its point, and finds its damage. -/
theorem test_silent_cabinet_reads_its_points :
    after (.sendNotAcknowledged false) (erring 0 (.double none) (sending (msg false .poll))) (fun t =>
      (t.damaged 0, (t.point 1).state, t.faults.errors)) = some (true, .offline, []) := by decide +kernel
/-- R129, R171: LIST DUE answers a due slot that its own check finds damaged by number and CANCELLED. -/
theorem test_list_due_finds_damage :
    after (.listDue 1 []) (erring 321 (.double none) (rostered [duty 1 604 .opened none none] yard)) (fun t =>
      match t.link.service with
      | .inService r none => r.body.take 4 ++ (r.body.drop 6).take 1
      | _ => []) = some (bytes [0, 1, 0, 1, 5]) := by decide +kernel

/-- R17, R68, R128: a rollover is one change: the entry that vehicle 2, at APRON, has left over in lane 3 is judged against the
keys as the rollover leaves them all, and no BLOCK-CREATED tells of an order that it never had. -/
theorem test_rollover_is_one_change :
    after .rollover
      { (calling.setLane 3 { Lane.blank with state := .opened, entries := [{ vehicle := 2, pos := 1, mark := .leavingExit },
          { vehicle := 1, pos := 2, mark := .settled }] }).updVehicle 1 (fun r => { r with key := 690 }) with
        clock := { yard.clock with minute := 1439 } }
      (fun t => ((t.vehicle 2).state, (t.lane 3).inversions, t.notices.pending &&& 4#16)) = some (.out, 0, 0#16) := by
  decide +kernel
/-- R68: the last of two buses has the earlier key, so the pair is out of order, and that is told. -/
theorem test_inversion_is_counted :
    after .rollover
      { (yard.setLane 1 { Lane.blank with state := .opened, entries := [{ vehicle := 2, pos := 1, mark := .settled },
          { vehicle := 0, pos := 2, mark := .settled }] }) with
        clock := { yard.clock with minute := 1439 }
        roster := { yard.roster with staged := [duty 2 650 .assigned (some (0, 100)) none], ready := true } }
      (fun t => ((t.lane 1).inversions, t.notices.pending &&& 4#16)) = some (1, 4#16) := by decide +kernel
/-- R157, R170, R173: a MOVE VEHICLE whose checks have passed is carried out though its own reads then find the behavioural
settings damaged, which leaves the part in SAFE. -/
theorem test_move_survives_what_its_effect_reads :
    after (.moveVehicle 1 (bytes [0, 100, 7, 3])) (erring (settingsRecord 0) (.double none) yard) (fun t =>
      (match t.link.service with | .inService r none => some r.status | _ => none, t.mode, (t.vehicle 0).state)) =
      some (some .done, .safe, .toBerth) := by decide +kernel
/-- R110, R177, R179: BEGIN CENSUS withdraws the calls: a berth and a spot are kept, APRON is an unconfirmed exit, and the two
CANCEL CALLs and the YARD STATE wait. -/
theorem test_begin_census_withdraws_calls :
    after (.beginCensus 1 []) calling (fun t =>
      (([6, 7, 2].map (fun v => (t.vehicle v).state)), t.roster.active.map (·.state), t.bus.urgent.length)) =
      some ([.parked, .inOverflow, .out], [.assigned, .assigned, .assigned, .gone, .opened], 3) := by decide +kernel
/-- R31, R54: the occupant of a SERVING bay that fails goes to the lane that placement chooses. -/
theorem test_fault_in_serving_bay_places :
    after .bayFault (bayReport 1 4 203 yard) (fun t => ((t.bay 1).state, (t.bay 1).onward, (t.vehicle 3).loc)) =
      some (.faulted, true, .lane 1 2) := by decide +kernel
/-- R184: at the wrap of the day a deadline five minutes into the new day is five minutes into it still, and an arrival of the
day before, which would fall below 0, becomes 0. -/
theorem test_wrap_keeps_distances :
    after .rollover
      { yard.setBay 2 { Bay.blank with state := .awaiting, occupant := some 2, deadline := some (65536 * 1440 + 5) } with
        clock := { yard.clock with day := 65535, minute := 1439 }
        service := { (yard.setBay 2 { Bay.blank with
          state := .awaiting, occupant := some 2, deadline := some (65536 * 1440 + 5) }).service with
          gate2 := [{ vehicle := 1, arrival := 65535 * 1440 }] } }
      (fun t => (t.clock.day, (t.bay 2).deadline, t.service.gate2.map (·.arrival))) = some (0, some 5, [0]) := by decide +kernel
/-- R62, R83, R171: the arrival at a berth with a charge point reads the vehicle's slot, and finds it damaged. -/
theorem test_arrival_reads_its_slot :
    after (.laneReport false) (erring 322 (.double none) (heard 4 0x14 [0, 1] (rostered [duty 2 650 .assigned (some (2, 102)) none]
      (((yard.place 2 .toBerth (.lane 1 1)).updVehicle 2 (fun r => { r with assignment := some 2, key := 650 })).setLane 1
        (oneEntry 2 1 (.arriving 15005) 0)))))
      (fun t => (t.roster.active.map (·.state), (t.vehicle 2).state, (t.vehicle 2).key)) =
      some ([.cancelled], .parked, 1440) := by decide +kernel
/-- R106, R171: an attempt pass reads the call lead for each slot it judges, with none due, and finds the behavioural settings
damaged. -/
theorem test_pass_reads_the_call_lead :
    after (.laneReport false) (erring (settingsRecord 0) (.double none) (heard 4 0x14 [0, 0]
      (rostered [duty 1 1400 .opened none none] (yard.setLane 1 (oneEntry 1 1 .leavingExit 1)))))
      (fun t => (t.mode, (t.lane 1).entries)) = some (.safe, []) := by decide +kernel

/-! ### Invariants: a state that meets them with something in the queues and a grant in force, and its step -/

/-- The yard with a full inbound queue, a message on its way and a session with a grant. -/
def loaded : State :=
  { (sending (msg false .poll)).setPoint 1 { Point.blank with cond := some .active, session := some { session with grant := 200 } } with
    bus := { (sending (msg false .poll)).bus with inbound := List.replicate 16 (report 6 0x13 [1, 1]) }
    pending := [.sendAcknowledged] }
theorem loaded_point (p : Nat) (h : (loaded.session p).isSome = true) : p = 1 := by
  by_contra hp
  have hp' : ((1 : Nat) == p) = false := by simp [Ne.symm hp]
  have : loaded.session p = none := by
    simp [State.session, State.point, loaded, sending, State.setPoint, Tab.getD, Tab.get?, Tab.set, Tab.put, yard, State.reset,
      Energy.blank, Tab.empty, hp', Point.blank]
  simp [this] at h
theorem witness_StepsKeepQueues : loaded.queuesOk ∧ ∃ t, step loaded = .next t :=
  ⟨⟨by decide +kernel, by decide +kernel, by decide +kernel, by decide +kernel⟩, _, rfl⟩
theorem witness_StepsKeepGrantsInBudget : loaded.grantsOk ∧ ∃ t, step loaded = .next t :=
  ⟨⟨fun p h => by rw [loaded_point p h]; decide +kernel, by decide +kernel⟩, _, rfl⟩
theorem witness_StepsChangeModeByTable :
    (∀ rest, loaded.pending ≠ .powerOnReset :: rest ∧ loaded.pending ≠ .lineReset :: rest) ∧
    (∀ rest, loaded.link.restarting = true → loaded.pending ≠ .responseComplete :: rest) ∧ ∃ t, step loaded = .next t :=
  ⟨fun _ => ⟨by simp [loaded], by simp [loaded]⟩, fun _ _ => by simp [loaded], _, rfl⟩

end Sys2Proof.Tests
end

section
/-! SUPPORT. Notices and the fault summary only rise (R159, R166). -/

namespace Sys2Proof.Machine

/-- R159, R166: every pending notice and every bit of the fault summary of `s` stands in `t`. -/
def State.flagsStand (s t : State) : Prop :=
  (∀ m, s.notices.pending &&& m ≠ 0#16 → t.notices.pending &&& m ≠ 0#16) ∧
  (∀ m, s.faults.summary &&& m ≠ 0#32 → t.faults.summary &&& m ≠ 0#32)

@[refl] theorem State.flagsStand.refl (s : State) : s.flagsStand s := ⟨fun _ => id, fun _ => id⟩
@[trans] theorem State.flagsStand.trans {s t u : State} (h : s.flagsStand t) (h' : t.flagsStand u) : s.flagsStand u :=
  ⟨fun m => h'.1 m ∘ h.1 m, fun m => h'.2 m ∘ h.2 m⟩
theorem State.flagsStand_of_eq {s t : State} (hn : t.notices.pending = s.notices.pending)
    (hf : t.faults.summary = s.faults.summary) : s.flagsStand t := by
  simp [State.flagsStand, hn, hf]
/-- What lets the flags stand at every step of a fold lets them stand over the fold. -/
theorem foldl_flagsStand {α : Type} {f : State → α → State} (h : ∀ (s : State) a, s.flagsStand (f s a)) :
    ∀ (l : List α) (s : State), s.flagsStand (l.foldl f s)
  | [], s => .refl s
  | a :: l, s => (h s a).trans (foldl_flagsStand h l (f s a))
/-- Bits that meet a mask meet it beside others. -/
theorem or_and_ne_zero {w : Nat} {a m : BitVec w} (b : BitVec w) (h : a &&& m ≠ 0#w) : (a ||| b) &&& m ≠ 0#w := by
  refine fun h0 => h (BitVec.eq_of_getLsbD_eq fun i hi => ?_)
  have hbit := congrArg (fun x => x.getLsbD i) h0
  simp only [BitVec.getLsbD_and, BitVec.getLsbD_or, BitVec.getLsbD_zero] at hbit ⊢
  grind

theorem State.raise_flagsStand (s : State) (k : NoticeKind) : s.flagsStand (s.raise k) :=
  ⟨fun _ => or_and_ne_zero _, fun _ => id⟩
theorem State.raiseIf_flagsStand (s : State) (p : Prop) [Decidable p] (k : NoticeKind) :
    s.flagsStand (if p then s.raise k else s) := by
  split
  · exact s.raise_flagsStand k
  · exact .refl s
theorem State.report_flagsStand (s : State) (c : FaultCode) (n : Nat) : s.flagsStand (s.report c n) := by
  refine ⟨fun m h => ?_, fun m h => ?_⟩
  · rw [State.report_notices]
    split
    · exact (s.raise_flagsStand .faultCaptured).1 m h
    · exact h
  · rw [State.report_summary]
    exact or_and_ne_zero _ h

/-! ### Messages (R94, R141, R143) -/

theorem State.loseMsg_flagsStand (s : State) (m : OutMsg) : s.flagsStand (s.loseMsg m) :=
  (State.flagsStand_of_eq (by simp) (by simp)).trans ((s.setpointLost m).report_flagsStand .q2 m.dest)
theorem State.enqueueFull_flagsStand (s : State) (m : OutMsg) : s.flagsStand (s.enqueueFull m) := by
  unfold State.enqueueFull
  split
  · split
    · dsimp only
      split
      · exact .refl s
      · exact s.loseMsg_flagsStand _
    · split
      · exact s.loseMsg_flagsStand m
      all_goals exact .refl s
  · exact s.loseMsg_flagsStand m
theorem State.enqueue_flagsStand (s : State) (m : OutMsg) : s.flagsStand (s.enqueue m) := by
  unfold State.enqueue
  dsimp only
  split
  · exact State.enqueueFull_flagsStand { s with bus := (s.bus.removeReplaced m).refill } m
  · exact State.flagsStand_of_eq (by simp) (by simp)
theorem State.setpoint_flagsStand (s : State) (p kw : Nat) (u : Bool) : s.flagsStand (s.setpoint p kw u) :=
  s.enqueue_flagsStand _
theorem State.cancelCallMsg_flagsStand (s : State) (a : Nat) (p : Place) (n : Nat) :
    s.flagsStand (s.cancelCallMsg a p n) := s.enqueue_flagsStand _

/-! ### The allocation (R81 to R94) -/

theorem State.issue_flagsStand (s : State) (p grant : Nat) : s.flagsStand (s.issue p grant) := by
  unfold State.issue
  dsimp only
  split
  · exact .refl s
  · exact State.setpoint_flagsStand (s.setPoint p { s.point p with issued := some grant }) p grant _
theorem State.issueGrant_flagsStand (s : State) (p : Nat) : s.flagsStand (s.issueGrant p) := by
  unfold State.issueGrant
  split
  · exact s.issue_flagsStand p _
  · exact .refl s
theorem State.issueLostZero_flagsStand (s : State) (p : Nat) : s.flagsStand (s.issueLostZero p) := by
  unfold State.issueLostZero
  split
  · exact State.setpoint_flagsStand (s.updPoint p (fun r => { r with issued := some 0 })) p 0 true
  · exact .refl s
theorem State.issueSetpoints_flagsStand (s : State) : s.flagsStand s.issueSetpoints :=
  (foldl_flagsStand State.issueGrant_flagsStand _ s).trans (foldl_flagsStand State.issueLostZero_flagsStand _ _)
theorem State.formInputs_flagsStand (s : State) (p : Nat) : s.flagsStand (s.formInputs p) := by
  unfold State.formInputs
  dsimp only
  split
  · exact .refl s
  · split
    · exact .refl s
    · split
      · exact State.report_flagsStand (s.updSession p _) .e3 p
      · exact .refl s
theorem State.gradeAt_flagsStand (s : State) (p : Nat) : s.flagsStand (s.gradeAt p) := by
  unfold State.gradeAt
  dsimp only
  split
  · exact .refl s
  · split
    · exact .refl s
    · exact State.raiseIf_flagsStand (s.updSession p _) _ _
theorem State.recompute_flagsStand (s : State) : s.flagsStand s.recompute := by
  have complete : ∀ (u : State) p, u.flagsStand (u.completeAt p) := fun _ _ =>
    State.flagsStand_of_eq (by simp) (by simp)
  have write : ∀ (u : State) x, u.flagsStand (u.writeShare x) := fun _ _ => State.flagsStand_of_eq (by simp) (by simp)
  unfold State.recompute
  dsimp only
  exact (foldl_flagsStand complete _ s).trans <| (foldl_flagsStand State.formInputs_flagsStand _ _).trans <|
    (foldl_flagsStand write _ _).trans <| (foldl_flagsStand State.gradeAt_flagsStand _ _).trans
      (State.issueSetpoints_flagsStand _)
theorem State.retargetAll_flagsStand (s : State) : s.flagsStand s.retargetAll := by
  have retarget : ∀ (u : State) p, u.flagsStand (u.retargetAt p) := fun _ _ =>
    State.flagsStand_of_eq (by simp) (by simp)
  have retargets := foldl_flagsStand retarget s.pointNums s
  unfold State.retargetAll
  dsimp only
  split
  · exact retargets
  · exact retargets.trans (State.recompute_flagsStand _)
theorem State.openingCheck_flagsStand (s : State) (p : Nat) : s.flagsStand (s.openingCheck p) := by
  have drops : s.flagsStand (s.dropStaleStop p) := by
    unfold State.dropStaleStop
    split <;> exact .refl s
  unfold State.openingCheck
  dsimp only
  split
  · refine drops.trans (.trans ?_ (State.recompute_flagsStand _))
    exact .refl (s.dropStaleStop p)
  · exact drops
theorem State.setWaiting_flagsStand (s : State) (p : Nat) : s.flagsStand (s.setWaiting p) := by
  unfold State.setWaiting
  dsimp only
  split
  · split
    · split
      · exact State.raiseIf_flagsStand (s.updPoint p _) _ _
      · exact .refl s
    · exact .refl s
  · exact .refl s
theorem State.regrade_flagsStand (s : State) (v : Nat) : s.flagsStand (s.regrade v) := by
  unfold State.regrade
  split
  · exact s.setWaiting_flagsStand _
  · exact .refl s
theorem State.tellArrival_flagsStand (s : State) (l pos : Nat) : s.flagsStand (s.tellArrival l pos) := by
  unfold State.tellArrival
  split
  · exact (s.openingCheck_flagsStand _).trans (State.setWaiting_flagsStand _ _)
  · exact .refl s

/-! ### Calls that end and changes passed on (R16, R17, R110, R127, R128) -/

theorem State.withdrawStanding_flagsStand (s : State) (n v : Nat) (c : Call) :
    s.flagsStand (s.withdrawStanding n v c) := by
  refine (s.cancelCallMsg_flagsStand c.node c.place n).trans ?_
  unfold State.withdrawStanding
  dsimp only
  split
  · exact .trans (State.flagsStand_of_eq (by simp) (by simp)) (State.tellArrival_flagsStand _ _ _)
  · exact State.flagsStand_of_eq (by simp) (by simp)
theorem State.closeUnconfirmed_flagsStand (s : State) (n v : Nat) (st : SlotState) :
    s.flagsStand (s.closeUnconfirmed n v st) :=
  .trans (State.flagsStand_of_eq (by simp) (by simp)) (State.report_flagsStand _ .l5 v)
theorem State.recountAll_flagsStand (s : State) : s.flagsStand s.recountAll := by
  refine foldl_flagsStand (fun u l => ?_) s.laneNums s
  unfold State.recountChanged State.recount
  dsimp only
  split
  · exact .refl u
  · exact State.raiseIf_flagsStand (u.setLane l _) _ _
/-- R17: what follows the recount of the lanes where changes are passed on. -/
theorem State.passOn_flagsStand_recount (s : State) (vs : List Nat) :
    (vs.foldl State.rekey s).recountAll.flagsStand (s.passOn vs) :=
  (State.retargetAll_flagsStand _).trans (foldl_flagsStand State.regrade_flagsStand vs _)
theorem State.passOn_flagsStand (s : State) (vs : List Nat) : s.flagsStand (s.passOn vs) :=
  .trans (State.flagsStand_of_eq (by simp) (by simp))
    ((State.recountAll_flagsStand _).trans (s.passOn_flagsStand_recount vs))

end Sys2Proof.Machine
end

section
/-! SUPPORT. What settling the calls does to a slot, its vehicle and the vehicle's entries (R103, R110, R128). -/

namespace Sys2Proof.Machine

/-! ### Reading back what the settling writes -/

theorem updVehicle_fleet_congr {s t : State} (h : s.fleet = t.fleet) (v : Nat) (f : Vehicle → Vehicle) :
    (s.updVehicle v f).fleet = (t.updVehicle v f).fleet := by
  simp only [State.updVehicle, State.setVehicle, State.vehicle, State.vehicle?, h]
  split <;> simp [h]
theorem vehicle?_of_fleet {s t : State} (h : t.fleet = s.fleet) (v : Nat) : t.vehicle? v = s.vehicle? v := by
  simp [State.vehicle?, h]
theorem slot_of_roster {s t : State} (h : t.roster = s.roster) (n : Nat) : t.slot n = s.slot n := by
  simp [State.slot, h]
/-- R52: a mark that is set changes the entries of one vehicle at one position of one lane. -/
theorem State.setMark_lane (s : State) (l v pos k : Nat) (m : Mark) :
    (s.setMark l v pos m).lane k = if k = l then { s.lane l with
      entries := (s.lane l).entries.map (fun e => if e.vehicle = v ∧ e.pos = pos then { e with mark := m } else e) }
    else s.lane k := by
  split
  · next h => subst h; exact State.lane_updLane_same s k _
  · next h => exact State.lane_updLane_ne s _ h
/-- R104: where numbers are not repeated in a plan, a slot is the one of its number. -/
theorem slotIn_of_mem {plan : List Slot} (hp : plan.Pairwise (fun x y => x.num ≠ y.num)) {x : Slot} (hx : x ∈ plan) :
    slotIn plan x.num = some x := by
  induction plan with
  | nil => cases hx
  | cons y ys ih =>
    obtain ⟨hy, hys⟩ := List.pairwise_cons.mp hp
    rcases List.mem_cons.mp hx with rfl | hx
    · simp [slotIn]
    · rw [slotIn, List.find?_cons_of_neg (by simpa using hy x hx)]
      exact ih hys hx

/-! ### A call that ends -/

/-- R15, R110: the state of a vehicle that stands at the place it was called from. -/
def Place.standsIn : Place → VehState
  | .lane _ _ => .parked
  | .spot _ => .inOverflow
/-- R15: the location of a vehicle that stands at a place. -/
def Place.loc : Place → Loc
  | .lane l p => .lane l p
  | .spot k => .overflow k
/-- R110: a called vehicle's record once its call `c` has been settled, and before keys are passed on. -/
def Vehicle.settled (r : Vehicle) (c : Call) : Vehicle :=
  if r.loc = .apron then { r with state := .out, loc := .absent, assignment := none }
  else { r with state := c.place.standsIn, loc := c.place.loc }

theorem State.withdrawStanding_fleet (s : State) (n v : Nat) (c : Call) :
    (s.withdrawStanding n v c).fleet = (s.place v c.place.standsIn c.place.loc).fleet := by
  unfold State.withdrawStanding
  dsimp only
  cases c.place with
  | lane l p =>
    simp only [State.tellArrival_fleet, State.setMark_fleet]
    exact updVehicle_fleet_congr (by simp) v _
  | spot k => exact updVehicle_fleet_congr (by simp) v _
theorem State.withdrawStanding_roster (s : State) (n v : Nat) (c : Call) :
    (s.withdrawStanding n v c).roster =
      (s.updSlot n (fun x => { x with state := .assigned, call := none })).roster := by
  unfold State.withdrawStanding
  dsimp only
  split <;> simp [State.updSlot, State.setActive]
theorem State.withdrawStanding_lane (s : State) (n v l : Nat) (c : Call) :
    (s.withdrawStanding n v c).lane l = match c.place with
      | .lane k p => (s.setMark k v p .settled).lane l
      | .spot _ => s.lane l := by
  unfold State.withdrawStanding
  dsimp only
  cases c.place with
  | lane k p =>
    simp only [lane_of_yard (State.tellArrival_yard _ k p), State.setMark_lane]
    simp [State.lane]
  | spot k => simp [State.lane]
theorem State.closeUnconfirmed_fleet (s : State) (n v : Nat) (st : SlotState) :
    (s.closeUnconfirmed n v st).fleet = ((s.place v .out .absent).setAssignment v none).fleet := by
  simp only [State.closeUnconfirmed, State.report_fleet]
  exact updVehicle_fleet_congr (updVehicle_fleet_congr (by simp) v _) v _
theorem State.closeUnconfirmed_roster (s : State) (n v : Nat) (st : SlotState) :
    (s.closeUnconfirmed n v st).roster =
      (s.updSlot n (fun x => { x.finish st with unconfirmed := x.unconfirmed || st == .gone })).roster := by
  simp [State.closeUnconfirmed]
theorem State.closeUnconfirmed_yard (s : State) (n v : Nat) (st : SlotState) :
    (s.closeUnconfirmed n v st).yard = s.yard := by
  simp [State.closeUnconfirmed]
/-- R110, R166: an unconfirmed exit is reported L5. -/
theorem State.closeUnconfirmed_summary (s : State) (n v : Nat) (st : SlotState) :
    (s.closeUnconfirmed n v st).faults.summary &&& (1#32 <<< 9) ≠ 0#32 := by
  rw [State.closeUnconfirmed, State.report_summary, BitVec.or_comm]
  exact or_and_ne_zero _ (by decide)

/-! ### A slot that is settled -/

/-- R128: a settled slot had no call to end, or its vehicle was at APRON, or stands at its place again. -/
theorem State.settleCall_cases (s : State) (n : Nat) :
    s.settleCall n = s ∨ ∃ x v f c, s.slot n = some x ∧ x.assigned = some (v, f) ∧ x.call = some c ∧
      (((s.vehicle v).loc = .apron ∧ s.settleCall n = s.closeUnconfirmed n v .gone) ∨
       ((s.vehicle v).loc ≠ .apron ∧ s.settleCall n = s.withdrawStanding n v c)) := by
  unfold State.settleCall State.endCall
  split
  · exact .inl rfl
  · next x hx =>
    split
    · next c v f hc ha =>
      refine .inr ⟨x, v, f, c, hx, ha, hc, ?_⟩
      split
      · next h => exact .inl ⟨h, rfl⟩
      · next h => exact .inr ⟨h, rfl⟩
    · exact .inl rfl
theorem State.settleCall_flagsStand (s : State) (n : Nat) : s.flagsStand (s.settleCall n) := by
  obtain hs | ⟨x, v, f, c, -, -, -, ⟨-, hs⟩ | ⟨-, hs⟩⟩ := s.settleCall_cases n <;> rw [hs]
  · exact s.closeUnconfirmed_flagsStand n v .gone
  · exact s.withdrawStanding_flagsStand n v c
/-- R128: a slot with a call and a vehicle is settled by where the vehicle is. -/
theorem State.settleCall_of_call {s : State} {n v f : Nat} {x : Slot} {c : Call} (hx : s.slot n = some x)
    (ha : x.assigned = some (v, f)) (hc : x.call = some c) :
    s.settleCall n = if (s.vehicle v).loc = .apron then s.closeUnconfirmed n v .gone else s.withdrawStanding n v c := by
  simp only [State.settleCall, State.endCall, hx, ha, hc]

/-- R103: the vehicle that a slot of the active plan holds. -/
def State.holds (s : State) (n : Nat) : Option Nat := (s.slot n).bind (fun x => x.assigned.map (·.1))
/-- Vehicle `v` and its entries in the lanes stand in `t` as in `s`. -/
def State.leavesAlone (s t : State) (v : Nat) : Prop :=
  t.vehicle v = s.vehicle v ∧ ∀ l, ∀ e ∈ (s.lane l).entries, e.vehicle = v → e ∈ (t.lane l).entries
theorem State.leavesAlone.refl (s : State) (v : Nat) : s.leavesAlone s v := ⟨rfl, fun _ _ h _ => h⟩
theorem State.leavesAlone.trans {s t u : State} {v : Nat} (h : s.leavesAlone t v) (h' : t.leavesAlone u v) :
    s.leavesAlone u v :=
  ⟨h'.1.trans h.1, fun l e he hv => h'.2 l e (h.2 l e he hv) hv⟩

theorem State.settleCall_slot_ne (s : State) {m n : Nat} (h : m ≠ n) : (s.settleCall n).slot m = s.slot m := by
  obtain hs | ⟨x, v, f, c, -, -, -, ⟨-, hs⟩ | ⟨-, hs⟩⟩ := s.settleCall_cases n
  · rw [hs]
  · rw [hs, slot_of_roster (State.closeUnconfirmed_roster s n v .gone)]
    exact State.slot_updSlot_ne s _ (fun _ => rfl) h
  · rw [hs, slot_of_roster (State.withdrawStanding_roster s n v c)]
    exact State.slot_updSlot_ne s _ (fun _ => rfl) h
/-- R128: a slot that is settled leaves the staged plan and READY. -/
theorem State.settleCall_staged_ready (s : State) (n : Nat) :
    ((s.settleCall n).roster.staged, (s.settleCall n).roster.ready) = (s.roster.staged, s.roster.ready) := by
  obtain hs | ⟨x, v, f, c, -, -, -, ⟨-, hs⟩ | ⟨-, hs⟩⟩ := s.settleCall_cases n
  · rw [hs]
  · rw [hs, State.closeUnconfirmed_roster]; rfl
  · rw [hs, State.withdrawStanding_roster]; rfl
theorem State.settleCall_live (s : State) (n w : Nat) :
    ((s.settleCall n).vehicle? w).isSome = (s.vehicle? w).isSome := by
  obtain hs | ⟨x, v, f, c, -, -, -, ⟨-, hs⟩ | ⟨-, hs⟩⟩ := s.settleCall_cases n
  · rw [hs]
  · rw [hs, vehicle?_of_fleet (State.closeUnconfirmed_fleet s n v .gone)]
    simp [State.setAssignment, State.place, State.updVehicle]
  · rw [hs, vehicle?_of_fleet (State.withdrawStanding_fleet s n v c)]
    simp [State.place, State.updVehicle]
/-- R68: a call that is settled leaves the counts of the lanes. -/
theorem State.settleCall_inversions (s : State) (n l : Nat) :
    ((s.settleCall n).lane l).inversions = (s.lane l).inversions := by
  obtain hs | ⟨x, v, f, c, -, -, -, ⟨-, hs⟩ | ⟨-, hs⟩⟩ := s.settleCall_cases n
  · rw [hs]
  · rw [hs, lane_of_yard (State.closeUnconfirmed_yard s n v .gone)]
  · rw [hs, State.withdrawStanding_lane]
    split
    · rw [State.setMark_lane]
      split
      · next h => rw [h]
      · rfl
    · rfl
/-- R128: a slot that is settled leaves every vehicle alone that it does not hold. -/
theorem State.settleCall_leavesAlone (s : State) {n v : Nat} (h : s.holds n ≠ some v) :
    s.leavesAlone (s.settleCall n) v := by
  obtain hs | ⟨x, w, f, c, hx, ha, -, hs⟩ := s.settleCall_cases n
  · rw [hs]; exact .refl s v
  have hw : v ≠ w := fun e => h (by simp [State.holds, hx, ha, e])
  obtain ⟨-, hs⟩ | ⟨-, hs⟩ := hs <;> rw [hs] <;> refine ⟨?_, fun l e he hv => ?_⟩
  · rw [vehicle_of_fleet (State.closeUnconfirmed_fleet s n w .gone), State.setAssignment,
      State.vehicle_updVehicle_ne _ _ hw, State.vehicle_place_ne s _ _ hw]
  · rw [lane_of_yard (State.closeUnconfirmed_yard s n w .gone)]; exact he
  · rw [vehicle_of_fleet (State.withdrawStanding_fleet s n w c), State.vehicle_place_ne s _ _ hw]
  · rw [State.withdrawStanding_lane]
    split
    · rw [State.setMark_lane]
      split
      · next hl =>
        subst hl
        exact List.mem_map.mpr ⟨e, he, if_neg fun hc => hw (hv.symm.trans hc.1)⟩
      · exact he
    · exact he
/-- R110, R128: what the vehicle of a settled call comes to. -/
theorem State.settleCall_vehicle {s : State} {n v f : Nat} {x : Slot} {c : Call} (hx : s.slot n = some x)
    (ha : x.assigned = some (v, f)) (hc : x.call = some c) (hv : (s.vehicle? v).isSome = true) :
    (s.settleCall n).vehicle v = (s.vehicle v).settled c := by
  rw [State.settleCall_of_call hx ha hc, Vehicle.settled]
  split
  · have hp : ((s.place v .out .absent).vehicle? v).isSome = true := by simp [State.place, State.updVehicle, hv]
    rw [vehicle_of_fleet (State.closeUnconfirmed_fleet s n v .gone), State.setAssignment,
      State.vehicle_updVehicle_same _ _ hp, State.vehicle_place_same s _ _ hv]
  · rw [vehicle_of_fleet (State.withdrawStanding_fleet s n v c), State.vehicle_place_same s _ _ hv]

/-! ### Slots settled one after the other -/

theorem settleCalls_slot : ∀ (ns : List Nat) (s : State) {m : Nat}, m ∉ ns →
    (ns.foldl State.settleCall s).slot m = s.slot m
  | [], _, _, _ => rfl
  | n :: ns, s, m, h => by
    rw [List.mem_cons, not_or] at h
    exact (settleCalls_slot ns _ h.2).trans (State.settleCall_slot_ne s h.1)
/-- R128: slots that are settled leave every vehicle alone that none of them holds. -/
theorem settleCalls_leavesAlone {v : Nat} : ∀ (ns : List Nat) (s : State), ns.Nodup →
    (∀ n ∈ ns, s.holds n ≠ some v) → s.leavesAlone (ns.foldl State.settleCall s) v
  | [], s, _, _ => .refl s v
  | a :: ns, s, hn, h => by
    obtain ⟨ha, hns⟩ := List.nodup_cons.mp hn
    refine (s.settleCall_leavesAlone (h a List.mem_cons_self)).trans (settleCalls_leavesAlone ns _ hns fun n hm => ?_)
    have hna : n ≠ a := fun e => ha (e ▸ hm)
    rw [State.holds, State.settleCall_slot_ne s hna]
    exact h n (List.mem_cons_of_mem a hm)
theorem State.settleAll_staged_ready (s : State) :
    (s.settleAll.roster.staged, s.settleAll.roster.ready) = (s.roster.staged, s.roster.ready) :=
  foldl_keeps (fun u : State => (u.roster.staged, u.roster.ready)) _ State.settleCall_staged_ready _ s
theorem State.settleAll_staged (s : State) : s.settleAll.roster.staged = s.roster.staged :=
  congrArg Prod.fst s.settleAll_staged_ready
theorem State.settleAll_ready (s : State) : s.settleAll.roster.ready = s.roster.ready :=
  congrArg Prod.snd s.settleAll_staged_ready
theorem State.settleAll_live (s : State) (v : Nat) : (s.settleAll.vehicle? v).isSome = (s.vehicle? v).isSome :=
  foldl_keeps (fun u : State => (u.vehicle? v).isSome) _ (fun u n => u.settleCall_live n v) _ s
theorem State.settleAll_inversions (s : State) (l : Nat) : (s.settleAll.lane l).inversions = (s.lane l).inversions :=
  foldl_keeps (fun u : State => (u.lane l).inversions) _ (fun u n => u.settleCall_inversions n l) _ s

/-! ### Every call settled -/

theorem State.callsPlain.nums {s : State} (h : s.callsPlain) :
    s.roster.active.Pairwise (fun x y => x.num ≠ y.num) := h.1.imp And.left
/-- R103: a CALLED slot's vehicle is called for no other. -/
theorem State.callsPlain.apart {s : State} (h : s.callsPlain) {x y : Slot} (hx : x ∈ s.roster.active)
    (hy : y ∈ s.roster.active) (hxy : x ≠ y) {v f g : Nat} {c d : Call} (hc : x.calls v f c) : ¬ y.calls v g d := by
  have hsymm : Std.Symm (fun x y : Slot => x.num ≠ y.num ∧ ∀ v f g c d, x.calls v f c → ¬ y.calls v g d) :=
    ⟨fun _ _ h => ⟨h.1.symm, fun v f g c d h1 h2 => h.2 v g f d c h2 h1⟩⟩
  exact (h.1.forall hx hy hxy).2 v f g c d hc
theorem State.callsPlain.calledSlots_nodup {s : State} (h : s.callsPlain) : s.calledSlots.Nodup :=
  List.pairwise_map.mpr (h.nums.filter _)
/-- R110, R128: a call settled with the others is settled as on its own: no other of them touches its slot, its vehicle or the
vehicle's entries. -/
theorem State.callsPlain.settleAll_at {s : State} (h : s.callsPlain) {x : Slot} (hx : x ∈ s.roster.active) {v f : Nat}
    {c : Call} (hc : x.calls v f c) :
    ∃ u, s.leavesAlone u v ∧ u.slot x.num = some x ∧ (u.vehicle? v).isSome = (s.vehicle? v).isSome ∧
      (u.settleCall x.num).leavesAlone s.settleAll v ∧ (u.settleCall x.num).flagsStand s.settleAll := by
  have hmem : x.num ∈ s.calledSlots := List.mem_map.mpr ⟨x, List.mem_filter.mpr ⟨hx, by simp [hc.1]⟩, rfl⟩
  obtain ⟨as, bs, hab⟩ := List.append_of_mem hmem
  have hnd := h.calledSlots_nodup
  rw [hab, List.nodup_middle, List.nodup_cons, List.mem_append, not_or] at hnd
  obtain ⟨⟨hxa, hxb⟩, hnab⟩ := hnd
  obtain ⟨hna, hnb, hdisj⟩ := List.nodup_append.mp hnab
  have hothers : ∀ n ∈ s.calledSlots, n ≠ x.num → s.holds n ≠ some v := by
    intro n hn hne
    obtain ⟨y, hy, rfl⟩ := List.mem_map.mp hn
    obtain ⟨hya, hys⟩ := List.mem_filter.mp hy
    obtain ⟨w, g, d, hyc, -, -⟩ := h.2 y hya (by simpa using hys)
    have hslot : s.slot y.num = some y := slotIn_of_mem h.nums hya
    have hvw : w ≠ v := by
      rintro rfl
      exact h.apart hx hya (fun e => hne (by rw [e])) hc hyc
    simpa [State.holds, hslot, hyc.2.1] using hvw
  refine ⟨as.foldl State.settleCall s, ?_, ?_, ?_, ?_, ?_⟩
  · exact settleCalls_leavesAlone as s hna fun n hn =>
      hothers n (by rw [hab]; exact List.mem_append_left _ hn) (fun e => hxa (e ▸ hn))
  · rw [settleCalls_slot as s hxa]; exact slotIn_of_mem h.nums hx
  · exact foldl_keeps (fun u : State => (u.vehicle? v).isSome) _ (fun u n => u.settleCall_live n v) as s
  · rw [State.settleAll, hab, List.foldl_append, List.foldl_cons]
    refine settleCalls_leavesAlone bs _ hnb fun n hn => ?_
    have hne : n ≠ x.num := fun e => hxb (e ▸ hn)
    rw [State.holds, State.settleCall_slot_ne _ hne, settleCalls_slot as s (fun ha => hdisj n ha n hn rfl)]
    exact hothers n (by rw [hab]; simp [hn]) hne
  · rw [State.settleAll, hab, List.foldl_append, List.foldl_cons]
    exact foldl_flagsStand State.settleCall_flagsStand bs _
/-- R110, R128: the vehicle of a settled call. -/
theorem State.callsPlain.settleAll_vehicle {s : State} (h : s.callsPlain) {x : Slot} (hx : x ∈ s.roster.active) {v f : Nat}
    {c : Call} (hc : x.calls v f c) (hv : (s.vehicle? v).isSome = true) :
    s.settleAll.vehicle v = (s.vehicle v).settled c := by
  obtain ⟨u, ⟨huv, -⟩, hslot, hlive, ⟨hafter, -⟩, -⟩ := h.settleAll_at hx hc
  rw [hafter, State.settleCall_vehicle hslot hc.2.1 hc.2.2 (hlive.trans hv), huv]
/-- R110, R128: the entry of a vehicle that stands at its place again is SETTLED. -/
theorem State.callsPlain.settleAll_entry {s : State} (h : s.callsPlain) {x : Slot} (hx : x ∈ s.roster.active) {v f : Nat}
    {c : Call} (hc : x.calls v f c) (hloc : (s.vehicle v).loc ≠ .apron) {l : Nat} {e : Entry}
    (he : e ∈ (s.lane l).entries) (hev : e.vehicle = v) (hpos : c.place = .lane l e.pos) :
    { e with mark := .settled } ∈ (s.settleAll.lane l).entries := by
  obtain ⟨u, ⟨huv, hentries⟩, hslot, -, ⟨-, hafter⟩, -⟩ := h.settleAll_at hx hc
  refine hafter l _ ?_ hev
  rw [State.settleCall_of_call hslot hc.2.1 hc.2.2, huv, if_neg hloc, State.withdrawStanding_lane]
  simp only [hpos, State.setMark_lane, if_true]
  exact List.mem_map.mpr ⟨e, hentries l e he hev, if_pos ⟨hev, rfl⟩⟩
/-- R110, R128: an unconfirmed exit among the settled calls is reported L5. -/
theorem State.callsPlain.settleAll_summary {s : State} (h : s.callsPlain) {x : Slot} (hx : x ∈ s.roster.active) {v f : Nat}
    {c : Call} (hc : x.calls v f c) (hloc : (s.vehicle v).loc = .apron) :
    s.settleAll.faults.summary &&& (1#32 <<< 9) ≠ 0#32 := by
  obtain ⟨u, ⟨huv, -⟩, hslot, -, -, hflags⟩ := h.settleAll_at hx hc
  refine hflags.2 _ ?_
  rw [State.settleCall_of_call hslot hc.2.1 hc.2.2, huv, if_pos hloc]
  exact u.closeUnconfirmed_summary x.num v .gone

end Sys2Proof.Machine
end

section
/-! SUPPORT. What changes passed on write of the vehicles and the lanes, and the commit of an empty plan (R16, R17, R127). -/

namespace Sys2Proof.Machine

/-! ### Assignments and keys -/

/-- A live index is one of the numbers of the Fleet Table. -/
theorem State.mem_keys {s : State} {v : Nat} (h : (s.vehicle? v).isSome = true) : v ∈ s.fleet.vehicles.keys := by
  obtain ⟨r, hr⟩ := Option.isSome_iff_exists.mp h
  obtain ⟨row, hrow, -⟩ := Option.map_eq_some_iff.mp hr
  have hv : row.1 = v := by simpa using List.find?_some hrow
  exact List.mem_map.mpr ⟨row, List.mem_of_find?_eq_some hrow, hv⟩
theorem State.setAssignment_live (s : State) (v w : Nat) (n : Option Nat) :
    ((s.setAssignment v n).vehicle? w).isSome = (s.vehicle? w).isSome := State.vehicle?_setVehicle_isSome s v w _
theorem State.rekey_live (s : State) (v w : Nat) : ((s.rekey v).vehicle? w).isSome = (s.vehicle? w).isSome :=
  State.vehicle?_setVehicle_isSome s v w _
theorem State.clearAssignments_live (s : State) (v : Nat) :
    (s.clearAssignments.vehicle? v).isSome = (s.vehicle? v).isSome :=
  foldl_keeps (fun u : State => (u.vehicle? v).isSome) _ (fun u w => u.setAssignment_live w v none) _ s
/-- Assignments cleared one after the other. -/
theorem setAssignments_vehicle {v : Nat} : ∀ (vs : List Nat) (s : State), (s.vehicle? v).isSome = true →
    (vs.foldl (fun t w => t.setAssignment w none) s).vehicle v =
      { s.vehicle v with assignment := if v ∈ vs then none else (s.vehicle v).assignment }
  | [], _, _ => rfl
  | w :: vs, s, h => by
    rw [List.foldl_cons, setAssignments_vehicle vs _ ((s.setAssignment_live w v none).trans h), State.setAssignment]
    by_cases hw : v = w
    · subst hw; simp [State.vehicle_updVehicle_same s _ h]
    · simp [State.vehicle_updVehicle_ne s _ hw, hw]
/-- R127: a vehicle whose assignment is cleared. -/
theorem State.clearAssignments_vehicle {s : State} {v : Nat} (h : (s.vehicle? v).isSome = true) :
    s.clearAssignments.vehicle v = { s.vehicle v with assignment := none } := by
  rw [State.clearAssignments, setAssignments_vehicle _ s h, if_pos (State.mem_keys h)]
theorem State.keyOf_of_roster {s t : State} (h : t.roster = s.roster) (n : Option Nat) : t.keyOf n = s.keyOf n := by
  simp [State.keyOf, State.slot, h]
/-- R16: keys recomputed one after the other. -/
theorem rekeys_vehicle {v : Nat} : ∀ (vs : List Nat) (s : State), (s.vehicle? v).isSome = true →
    (vs.foldl State.rekey s).vehicle v =
      { s.vehicle v with key := if v ∈ vs then s.keyOf (s.vehicle v).assignment else (s.vehicle v).key }
  | [], _, _ => rfl
  | w :: vs, s, h => by
    rw [List.foldl_cons, rekeys_vehicle vs _ ((s.rekey_live w v).trans h), State.keyOf_of_roster (s.rekey_roster w),
      State.rekey]
    by_cases hw : v = w
    · subst hw; simp [State.vehicle_updVehicle_same s _ h]
    · simp [State.vehicle_updVehicle_ne s _ hw, hw]

/-! ### Changes passed on -/

theorem State.passOn_fleet (s : State) (vs : List Nat) : (s.passOn vs).fleet = (vs.foldl State.rekey s).fleet := by
  simp [State.passOn]
theorem State.passOn_yard (s : State) (vs : List Nat) :
    (s.passOn vs).yard = (vs.foldl State.rekey s).recountAll.yard := by
  simp [State.passOn]
/-- R17: a change of keys passed on changes a lane's count and nothing else of it. -/
theorem State.passOn_entries (s : State) (vs : List Nat) (l : Nat) :
    ((s.passOn vs).lane l).entries = (s.lane l).entries := by
  have hrekeyed : (vs.foldl State.rekey s).yard = s.yard := by simp
  rw [lane_of_yard (s.passOn_yard vs), State.recountAll_lane, lane_of_yard hrekeyed]
  split <;> rfl
/-- R17, R68: where changes are passed on, every lane is recounted on the new keys. -/
theorem State.passOn_recountedAll (s : State) (vs : List Nat) : s.recountedAll (s.passOn vs) := by
  intro l h1 h2
  have hgeo : (vs.foldl State.rekey s).geo = s.geo :=
    congrArg Settings.geo (settings_of_core (foldl_core State.rekey State.rekey_core vs s))
  have hlane : (vs.foldl State.rekey s).lane l = s.lane l := lane_of_yard (by simp) l
  have hafter := lane_of_yard (s.passOn_yard vs) l
  obtain ⟨hcount, hrise⟩ := State.recountAll_recountedAll (vs.foldl State.rekey s) l h1 (hgeo ▸ h2)
  rw [hlane] at hrise
  refine ⟨?_, fun h0 hpos => (s.passOn_flagsStand_recount vs).1 _ (hrise h0 (hafter ▸ hpos))⟩
  rw [hafter, hcount]
  exact (inversionPairs_congr ((s.passOn_fleet vs).trans (State.recountAll_fleet _).symm) (by rw [hafter])).symm
/-- R16, R17: what changed since `before` passed on: where no key has been written since, every vehicle has the key of its
assignment. -/
theorem State.passChanges_vehicle {s before : State} {v : Nat} (h : (s.vehicle? v).isSome = true)
    (hkey : (before.vehicle v).key = (s.vehicle v).key) :
    (s.passChanges before).vehicle v = { s.vehicle v with key := s.keyOf (s.vehicle v).assignment } := by
  rw [State.passChanges, vehicle_of_fleet (s.passOn_fleet _), rekeys_vehicle _ s h]
  split
  · rfl
  · next hunchanged =>
    simp only [State.changedSince, List.mem_filter, State.mem_keys h, hkey, true_and, Bool.or_eq_true, bne_iff_ne,
      not_or, not_not] at hunchanged
    obtain ⟨⟨-, hsame⟩, -⟩ := hunchanged
    rw [← hsame]

/-! ### The commit of an empty plan -/

/-- R127: the active plan freed with its assignments, both plans empty, and nothing passed on yet. -/
def State.emptied (s : State) : State :=
  { (s.freeSlots s.roster.active).clearAssignments with roster := { active := [], staged := [], ready := false } }
theorem State.commit_empty {s : State} (h : s.roster.staged = []) : s.commit = s.emptied.passChanges s := by
  simp [State.commit, State.emptied, h]
theorem State.emptied_vehicle {s : State} {v : Nat} (h : (s.vehicle? v).isSome = true) :
    s.emptied.vehicle v = { s.vehicle v with assignment := none } := by
  have hf := s.freeSlots_fleet s.roster.active
  rw [← vehicle_of_fleet hf v]
  exact State.clearAssignments_vehicle (by rw [vehicle?_of_fleet hf]; exact h)
theorem State.emptied_lane (s : State) (l : Nat) : s.emptied.lane l = s.lane l :=
  lane_of_yard ((State.clearAssignments_yard _).trans (s.freeSlots_yard _)) l
theorem State.emptied_geo (s : State) : s.emptied.geo = s.geo :=
  congrArg Settings.geo (settings_of_core ((State.clearAssignments_core _).trans (s.freeSlots_core _)))
/-- R172: slot records that are freed leave what has been reported. -/
theorem State.freeSlots_reported (s : State) (xs : List Slot) :
    ((s.freeSlots xs).faults.capture, (s.freeSlots xs).faults.summary) = (s.faults.capture, s.faults.summary) :=
  foldl_keeps (fun u : State => (u.faults.capture, u.faults.summary))
    (fun (t : State) (x : Slot) => (t.unmark x.record).freshen x.record) (fun _ _ => rfl) xs s
theorem State.emptied_flagsStand (s : State) : s.flagsStand s.emptied := by
  refine State.flagsStand_of_eq (by simp [State.emptied]) ?_
  simpa [State.emptied] using congrArg Prod.snd (s.freeSlots_reported s.roster.active)

/-- R17, R127: both plans empty after the commit of an empty plan. -/
theorem State.commit_empty_roster {s : State} (h : s.roster.staged = []) :
    s.commit.roster = { active := [], staged := [], ready := false } := by
  rw [State.commit_empty h, State.passChanges, State.passOn_roster]; rfl
/-- R16, R127: after the commit of an empty plan no vehicle has an assignment, and its key is the end of the day. -/
theorem State.commit_empty_vehicle {s : State} (h : s.roster.staged = []) {v : Nat}
    (hv : (s.vehicle? v).isSome = true) :
    s.commit.vehicle v = { s.vehicle v with assignment := none, key := 1440 } := by
  have hlive : (s.emptied.vehicle? v).isSome = true :=
    (State.clearAssignments_live _ v).trans (by rw [vehicle?_of_fleet (s.freeSlots_fleet _)]; exact hv)
  rw [State.commit_empty h, State.passChanges_vehicle hlive (by rw [State.emptied_vehicle hv]), State.emptied_vehicle hv]
  rfl
theorem State.commit_empty_entries {s : State} (h : s.roster.staged = []) (l : Nat) :
    (s.commit.lane l).entries = (s.lane l).entries := by
  rw [State.commit_empty h, State.passChanges, State.passOn_entries, State.emptied_lane]
theorem State.commit_empty_recountedAll {s : State} (h : s.roster.staged = []) : s.recountedAll s.commit := by
  intro l h1 h2
  rw [State.commit_empty h, State.recounted, ← s.emptied_lane l]
  exact s.emptied.passOn_recountedAll _ l h1 (by rw [State.emptied_geo]; exact h2)
theorem State.commit_empty_flagsStand {s : State} (h : s.roster.staged = []) : s.flagsStand s.commit := by
  rw [State.commit_empty h]
  exact s.emptied_flagsStand.trans (s.emptied.passOn_flagsStand _)

end Sys2Proof.Machine
end

section
/-! SUPPORT. The rollover with an empty staged plan that is READY, and the two requests on the staged plan (R126, R128, R184). -/

namespace Sys2Proof.Machine

/-- R17, R110, R128: what a rollover from `s` to `t` with an empty staged plan that is READY leaves. -/
def State.rolledEmpty (s t : State) : Prop :=
  t.roster = { active := [], staged := [], ready := false } ∧ s.recountedAll t ∧ (s.callsPlain → s.callsSettled t) ∧
  ∀ v, (s.vehicle? v).isSome = true → (t.vehicle v).assignment = none ∧ (t.vehicle v).key = 1440

/-! ### The roster's rollover -/

theorem State.settleAll_commit_vehicle {s : State} (h : s.roster.staged = []) {v : Nat}
    (hv : (s.vehicle? v).isSome = true) :
    s.settleAll.commit.vehicle v = { s.settleAll.vehicle v with assignment := none, key := 1440 } :=
  State.commit_empty_vehicle (s.settleAll_staged.trans h) ((s.settleAll_live v).trans hv)
/-- R17, R68, R128: a rollover is one change, so a count is judged against the one before the calls were settled. -/
theorem State.settleAll_commit_recountedAll {s : State} (h : s.roster.staged = []) :
    s.recountedAll s.settleAll.commit := by
  intro l h1 h2
  rw [State.recounted, ← s.settleAll_inversions l]
  have hgeo : s.settleAll.geo = s.geo := congrArg Settings.geo (settings_of_core s.settleAll_core)
  exact State.commit_empty_recountedAll (s.settleAll_staged.trans h) l h1 (hgeo ▸ h2)
/-- R110, R128: the calls are settled, and stand settled when the assignments and the keys have been given afresh. -/
theorem State.settleAll_commit_callsSettled {s : State} (h : s.roster.staged = []) (hp : s.callsPlain) :
    s.callsSettled s.settleAll.commit := by
  intro x hx v f c hc
  obtain ⟨w, g, d, ⟨-, hasg, -⟩, hlive, -⟩ := hp.2 x hx hc.1
  obtain ⟨rfl, rfl⟩ := Prod.mk.inj (Option.some.inj (hasg.symm.trans hc.2.1))
  have hstaged := s.settleAll_staged.trans h
  have hveh := State.settleAll_commit_vehicle h hlive
  rw [hp.settleAll_vehicle hx hc hlive, Vehicle.settled] at hveh
  refine ⟨fun hloc => ⟨fun l p hplace => ⟨?_, fun e he hev hpos => ?_⟩, fun k hplace => ?_⟩, fun hloc => ⟨?_, ?_⟩⟩
  · rw [hveh, if_neg hloc, hplace]; rfl
  · rw [State.commit_empty_entries hstaged]
    exact hp.settleAll_entry hx hc hloc he hev (hpos ▸ hplace)
  · rw [hveh, if_neg hloc, hplace]; rfl
  · rw [hveh, if_pos hloc]
  · exact (State.commit_empty_flagsStand hstaged).2 _ (hp.settleAll_summary hx hc hloc)
/-- R175: the wear is no part of what a rollover leaves of the plans and the vehicles. -/
theorem State.resetWear_rolledEmpty {s t : State} (h : s.rolledEmpty t) : s.rolledEmpty t.resetWear := h
theorem State.rollBlocks_rolledEmpty {s : State} (hclean : s.clean = true) (hready : s.roster.ready = true)
    (hstaged : s.roster.staged = []) : s.rolledEmpty s.rollBlocks := by
  have hroll : s.rollBlocks = s.settleAll.commit.resetWear := by
    rw [State.rollBlocks, State.reading_of_clean hclean, State.rollRoster]
    rw [if_pos (s.settleAll_ready.trans hready)]
  rw [hroll]
  refine State.resetWear_rolledEmpty ⟨State.commit_empty_roster (s.settleAll_staged.trans hstaged), State.settleAll_commit_recountedAll hstaged,
    State.settleAll_commit_callsSettled hstaged, fun v hv => ?_⟩
  rw [State.settleAll_commit_vehicle hstaged hv]
  exact ⟨rfl, rfl⟩

/-! ### The wrap of the day number (R184) -/

theorem State.wrapTimes_lane (s : State) (l : Nat) : s.wrapTimes.lane l = { s.lane l with
    entries := (s.lane l).entries.map (fun e => { e with mark := e.mark.wrapped }) } := by
  simp only [State.lane, State.wrapTimes, Tab.getD, Tab.get?_mapRows]
  cases s.yard.lanes.get? l <;> rfl
theorem State.wrapTimes_recountedAll {s t : State} (h : s.wrapTimes.recountedAll t) : s.recountedAll t := by
  intro l h1 h2
  have := h l h1 h2
  rwa [State.recounted, State.wrapTimes_lane] at this
/-- R184: a call with its deadline reduced. -/
def Call.wrapped (c : Call) : Call := { c with deadline := c.deadline - wrapMinutes }
theorem Call.wrapped_place (c : Call) : c.wrapped.place = c.place := by rw [Call.wrapped]
theorem Slot.calls_wrapped {x : Slot} {v f : Nat} {c : Call} (h : x.calls v f c) : x.wrapped.calls v f c.wrapped := by
  obtain ⟨hstate, hveh, hcall⟩ := h
  exact ⟨hstate, hveh, by simp [Slot.wrapped, hcall, Call.wrapped]⟩
theorem Slot.calls_of_wrapped {x : Slot} {v f : Nat} {c : Call} (h : x.wrapped.calls v f c) : ∃ d, x.calls v f d := by
  obtain ⟨hstate, hveh, hcall⟩ := h
  obtain ⟨d, hd, -⟩ := Option.map_eq_some_iff.mp hcall
  exact ⟨d, hstate, hveh, hd⟩
theorem State.callsPlain.wrapTimes {s : State} (h : s.callsPlain) : s.wrapTimes.callsPlain := by
  obtain ⟨hapart, hcalled⟩ := h
  refine ⟨List.pairwise_map.mpr (hapart.imp fun {x y} hxy => ⟨hxy.1, ?vehicles⟩), ?called⟩
  case vehicles =>
    intro v f g c d hc hd
    obtain ⟨c', hc'⟩ := Slot.calls_of_wrapped hc
    obtain ⟨d', hd'⟩ := Slot.calls_of_wrapped hd
    exact hxy.2 v f g c' d' hc' hd'
  case called =>
    intro y hy hs
    obtain ⟨x, hx, rfl⟩ := List.mem_map.mp hy
    obtain ⟨v, f, c, hc, hlive, hdep⟩ := hcalled x hx hs
    exact ⟨v, f, c.wrapped, Slot.calls_wrapped hc, hlive, hdep⟩
theorem State.wrapTimes_callsSettled {s t : State} (h : s.wrapTimes.callsSettled t) : s.callsSettled t := by
  intro x hx v f c hc
  obtain ⟨hstands, hleft⟩ := h x.wrapped (List.mem_map.mpr ⟨x, hx, rfl⟩) v f c.wrapped (Slot.calls_wrapped hc)
  simp only [State.standsAgain, Call.wrapped_place] at hstands
  refine ⟨fun hloc => ?_, hleft⟩
  obtain ⟨hlane, hspot⟩ := hstands hloc
  refine ⟨fun l p hplace => ⟨(hlane l p hplace).1, fun e he hev hpos => ?_⟩, hspot⟩
  refine (hlane l p hplace).2 { e with mark := e.mark.wrapped } ?_ hev hpos
  rw [State.wrapTimes_lane]
  exact List.mem_map.mpr ⟨e, he, rfl⟩
theorem State.wrapTimes_rolledEmpty {s t : State} (h : s.wrapTimes.rolledEmpty t) : s.rolledEmpty t := by
  obtain ⟨hroster, hcount, hcalls, hkeys⟩ := h
  exact ⟨hroster, State.wrapTimes_recountedAll hcount, fun hp => State.wrapTimes_callsSettled (hcalls hp.wrapTimes), hkeys⟩

/-- R184: what the rollover is handed to: the state on another day, its moments reduced where the day number wraps. -/
theorem State.rolloverEvent_cases {s : State} (hset : s.clock.isSet = true) (hmin : s.clock.minute = 1439) :
    ∃ c, s.rolloverEvent = State.rollBlocks { s with clock := c } ∨
      s.rolloverEvent = (State.wrapTimes { s with clock := c }).rollBlocks := by
  have hdue : (s.clock.isSet && s.clock.minute == Config.dayMinutes - 1) = true := by
    rw [hset, hmin]; rfl
  rw [State.rolloverEvent, if_pos hdue, State.nextDay]
  dsimp only
  split
  · exact ⟨{ s.clock with minute := 0, seconds := 0, day := 0, minuteOwed := true }, .inr rfl⟩
  · exact ⟨{ s.clock with minute := 0, seconds := 0, day := s.clock.day + 1, minuteOwed := true }, .inl rfl⟩
theorem State.rolloverEvent_rolledEmpty {s : State} (hclean : s.clean = true) (hset : s.clock.isSet = true)
    (hmin : s.clock.minute = 1439) (hready : s.roster.ready = true) (hstaged : s.roster.staged = []) :
    s.rolledEmpty s.rolloverEvent := by
  obtain ⟨c, h | h⟩ := State.rolloverEvent_cases hset hmin <;> rw [h]
  · exact State.rollBlocks_rolledEmpty (s := { s with clock := c }) hclean hready hstaged
  · exact State.wrapTimes_rolledEmpty (s := { s with clock := c })
      (State.rollBlocks_rolledEmpty (s := State.wrapTimes { s with clock := c }) hclean hready hstaged)

/-! ### CLEAR STAGED and MARK STAGED -/

theorem State.clearStaged_core (s : State) : s.clearStaged.core = s.core := s.freeSlots_core s.roster.staged
theorem State.clearStaged_roster (s : State) : s.clearStaged.roster = { s.roster with staged := [], ready := false } := by
  simp [State.clearStaged]
/-- R154, R156: a request that is taken changes what its effect changes, beside the link. -/
theorem State.goodFrame_effect {s t : State} (h : s.ready = true) {serve : State → Reply × State} {r : Reply}
    (hs : serve s = (r, t)) (code tag : Byte) : ∃ k, s.goodFrame serve code tag = { t with link := k } := by
  rw [State.goodFrame_ready h, hs]
  exact ⟨_, rfl⟩

/-- Settles O39. CLEAR STAGED and MARK STAGED by their effect on the roster; the rollover by the commit of an empty plan, which
follows the settling of the calls, with the wrap of the day number carried back to the moments before it. -/
theorem stagedPlanClearedOrMarked : Obligations.StagedPlanClearedOrMarked := by
  intro tag body s hready
  refine ⟨fun hlen => ?_, fun hlen hchoice => ?_, fun hclean hset hmin hplan hstaged => ?_⟩
  · have hserve : serveClearStaged body s = (done [], s.clearStaged) := sized_eq _ s hlen
    obtain ⟨k, hk⟩ := State.goodFrame_effect hready hserve 0x66#8 tag
    have hreported := s.freeSlots_reported s.roster.staged
    refine ⟨_, rfl, State.goodFrame_answers hready hserve s.clearStaged_core 0x66#8 tag, ?_⟩
    rw [hk]
    exact ⟨s.clearStaged_roster, s.freeSlots_fleet _, s.freeSlots_service _, s.freeSlots_yard _, s.freeSlots_energy _,
      s.freeSlots_bus _, s.freeSlots_notices _, congrArg Prod.fst hreported, congrArg Prod.snd hreported⟩
  · have hserve : serveMarkStaged body s = (done [], s.setReady (at8 body 0 == 1)) := by
      rw [serveMarkStaged, sized_eq _ s hlen, if_pos hchoice]
    obtain ⟨k, hk⟩ := State.goodFrame_effect hready hserve 0x67#8 tag
    refine ⟨_, rfl, State.goodFrame_answers hready hserve rfl 0x67#8 tag, ?_⟩
    rw [hk]
    exact ⟨by simp [State.setReady, beq_eq_decide], rfl, rfl, rfl, rfl, rfl, rfl, rfl⟩
  · exact ⟨_, rfl, State.rolloverEvent_rolledEmpty hclean hset hmin hplan hstaged⟩

end Sys2Proof.Machine
end

section
/-! SUPPORT. The settings, the modes, the check of a record and the clock leave the enables and priorities of the
notices (R163). -/

namespace Sys2Proof.Machine

/-- R163: the enables and priorities of the sixteen kinds. A view of the core, so that what leaves the core alone
leaves them. -/
def Core.noticeSetup (c : Core) : BitVec 16 × BitVec 16 := (c.enables, c.urgents)

@[simp] theorem State.noticeSetup_mk (mode : PartMode) (startup : Bool) (clock : Clock) (settings : Settings)
    (store : Store) (fleet : Fleet) (service : Service) (yard : Yard) (energy : Energy) (roster : Roster) (bus : Bus)
    (link : Link) (notices : Notices) (faults : FaultUnit) (pending : List Instr) :
    (State.mk mode startup clock settings store fleet service yard energy roster bus link notices faults
      pending).core.noticeSetup = (notices.enables, notices.urgents) := rfl
@[simp] theorem State.noticeSetup_eta (s : State) : (s.notices.enables, s.notices.urgents) = s.core.noticeSetup := rfl
@[simp] theorem foldl_noticeSetup {α : Type} (f : State → α → State)
    (h : ∀ s a, (f s a).core.noticeSetup = s.core.noticeSetup) (l : List α) (s : State) :
    (l.foldl f s).core.noticeSetup = s.core.noticeSetup := foldl_keeps (fun s => s.core.noticeSetup) f h l s

/-! ### Settings (R174, R186) -/

@[simp] theorem State.dropItems_noticeSetup (s : State) : s.dropItems.core.noticeSetup = s.core.noticeSetup := rfl
@[simp] theorem State.writeKey_noticeSetup (s : State) (k : Key) (v : Nat) :
    (s.writeKey k v).core.noticeSetup = s.core.noticeSetup := rfl
@[simp] theorem State.settleSettings_noticeSetup (s before : State) :
    (s.settleSettings before).core.noticeSetup = s.core.noticeSetup := by
  simp [State.settleSettings]
@[simp] theorem State.endDropped_core (s : State) (n : Nat) : (s.endDropped n).core = s.core := by
  unfold State.endDropped
  dsimp only
  split
  · simp
  · rfl
@[simp] theorem State.restoreKey_noticeSetup (src : Settings) (s : State) (k : Key) :
    (State.restoreKey src s k).core.noticeSetup = s.core.noticeSetup := by
  unfold State.restoreKey
  dsimp only
  split <;> simp
@[simp] theorem State.restoreKeys_noticeSetup (s : State) (ks : List Key) :
    (s.restoreKeys ks).core.noticeSetup = s.core.noticeSetup := by
  unfold State.restoreKeys
  dsimp only
  split <;> simp
@[simp] theorem State.rebuildNodes_noticeSetup (s : State) : s.rebuildNodes.core.noticeSetup = s.core.noticeSetup := rfl

/-! ### Modes (R177 to R182) -/

@[simp] theorem State.setMode_noticeSetup (s : State) (m : PartMode) :
    (s.setMode m).core.noticeSetup = s.core.noticeSetup := by
  simp [State.setMode]
@[simp] theorem State.leaveConfigureForSafe_noticeSetup (s : State) :
    s.leaveConfigureForSafe.core.noticeSetup = s.core.noticeSetup := by
  unfold State.leaveConfigureForSafe
  split <;> simp
@[simp] theorem State.enterSafe_noticeSetup (s : State) : s.enterSafe.core.noticeSetup = s.core.noticeSetup := by
  unfold State.enterSafe
  split
  · rfl
  · dsimp only
    split <;> simp
@[simp] theorem State.reportFatal_noticeSetup (s : State) (c : FaultCode) (subject : Nat) :
    (s.reportFatal c subject).core.noticeSetup = s.core.noticeSetup := by
  simp [State.reportFatal]
@[simp] theorem State.pollAll_noticeSetup (s : State) : s.pollAll.core.noticeSetup = s.core.noticeSetup := by
  simp [State.pollAll]
@[simp] theorem State.settleEntry_noticeSetup (s : State) (m : PartMode) :
    (s.settleEntry m).core.noticeSetup = s.core.noticeSetup := by
  unfold State.settleEntry
  dsimp only
  split <;> simp
@[simp] theorem State.reconcileLane_core (s : State) (l : Nat) : (s.reconcileLane l).core = s.core := by
  unfold State.reconcileLane
  dsimp only
  split
  · split <;> simp
  · simp
@[simp] theorem State.startRunning_core (s before : State) : (s.startRunning before).core = s.core := by
  unfold State.startRunning
  dsimp only
  split <;> simp

/-! ### The check of a record (R170 to R176) -/

@[simp] theorem State.setWear_noticeSetup (s : State) (bank : Nat) (w : Wear) :
    (s.setWear bank w).core.noticeSetup = s.core.noticeSetup := rfl
@[simp] theorem State.wornOut_noticeSetup (s : State) (bank : Nat) :
    (s.wornOut bank).core.noticeSetup = s.core.noticeSetup := by
  unfold State.wornOut
  split <;> simp
@[simp] theorem State.countCorrection_noticeSetup (s : State) (bank : Nat) :
    (s.countCorrection bank).core.noticeSetup = s.core.noticeSetup := by
  unfold State.countCorrection
  dsimp only
  split <;> simp
@[simp] theorem State.leaveFields_core (s : State) (n : Nat) (left : Option HeldFields) :
    (s.leaveFields n left).core = s.core := by
  unfold State.leaveFields
  split
  · split <;> simp
  · rfl
@[simp] theorem State.damageVehicle_core (s : State) (v : Nat) : (s.damageVehicle v).core = s.core := by
  unfold State.damageVehicle
  dsimp only
  split <;> simp
@[simp] theorem State.damageActive_core (s : State) (x : Slot) : (s.damageActive x).core = s.core := by
  unfold State.damageActive
  split
  · split <;> simp
  · simp
  · simp
@[simp] theorem State.damageSlot_core (s : State) (record : Nat) : (s.damageSlot record).core = s.core := by
  unfold State.damageSlot
  split <;> simp
@[simp] theorem State.rebuildLane_core (s : State) (l : Nat) : (s.rebuildLane l).core = s.core := by
  simp [State.rebuildLane]
@[simp] theorem State.damageSession_core (s : State) (p : Nat) : (s.damageSession p).core = s.core := by
  simp [State.damageSession]
@[simp] theorem State.damageSettings_noticeSetup (s : State) (place : Nat) :
    (s.damageSettings place).core.noticeSetup = s.core.noticeSetup := by
  simp [State.damageSettings]
@[simp] theorem State.actOnDamage_noticeSetup (s : State) (n : Nat) :
    (s.actOnDamage n).core.noticeSetup = s.core.noticeSetup := by
  unfold State.actOnDamage
  split_ifs <;> simp
/-- R163, R171: neither what a check finds nor what it finds in turn touches an enable or a priority. -/
@[simp] theorem State.checkWith_noticeSetup (fuel : Nat) (s : State) (n : Nat) :
    (State.checkWith fuel s n).core.noticeSetup = s.core.noticeSetup := by
  induction fuel generalizing s n with
  | zero => rfl
  | succ fuel ih =>
    unfold State.checkWith
    split
    · rfl
    · split
      · rfl
      · dsimp only
        split
        · simp [ih]
        · split <;> simp [ih]
@[simp] theorem State.checkRecord_noticeSetup (s : State) (n : Nat) :
    (s.checkRecord n).core.noticeSetup = s.core.noticeSetup := s.checkWith_noticeSetup _ n
@[simp] theorem State.checkRecords_noticeSetup (s : State) (ns : List Nat) :
    (s.checkRecords ns).core.noticeSetup = s.core.noticeSetup := foldl_noticeSetup _ State.checkRecord_noticeSetup ns s
@[simp] theorem State.reading_noticeSetup (s : State) (reads : State → List Nat) :
    (s.reading reads).core.noticeSetup = s.core.noticeSetup := s.checkRecords_noticeSetup _
@[simp] theorem State.patrol_noticeSetup (s : State) : s.patrol.core.noticeSetup = s.core.noticeSetup :=
  s.checkRecords_noticeSetup _
@[simp] theorem State.checkBank_noticeSetup (s : State) (bank : Nat) :
    (s.checkBank bank).core.noticeSetup = s.core.noticeSetup := s.checkRecords_noticeSetup _
@[simp] theorem State.addErrors_noticeSetup (s : State) (es : List MemError) :
    (s.addErrors es).core.noticeSetup = s.core.noticeSetup := rfl

/-! ### The clock (R184, R185) -/

@[simp] theorem State.wrapTimes_core (s : State) : s.wrapTimes.core = s.core := rfl
@[simp] theorem State.resetWear_noticeSetup (s : State) : s.resetWear.core.noticeSetup = s.core.noticeSetup := rfl
@[simp] theorem State.rollBlocks_noticeSetup (s : State) : s.rollBlocks.core.noticeSetup = s.core.noticeSetup := by
  simp [State.rollBlocks]
@[simp] theorem State.nextDay_noticeSetup (s : State) : s.nextDay.core.noticeSetup = s.core.noticeSetup := by
  unfold State.nextDay
  dsimp only
  split <;> rfl
@[simp] theorem State.rollOver_noticeSetup (s : State) : s.rollOver.core.noticeSetup = s.core.noticeSetup := by
  simp [State.rollOver]
@[simp] theorem State.minuteBay_core (s : State) (b : Nat) : (s.minuteBay b).core = s.core := by
  unfold State.minuteBay
  split <;> simp
@[simp] theorem State.minuteWash_core (s : State) (l : Nat) : (s.minuteWash l).core = s.core := by
  unfold State.minuteWash
  split <;> simp
@[simp] theorem State.minuteMove_core (s : State) (m : Movement) : (s.minuteMove m).core = s.core := by
  unfold State.minuteMove
  split <;> simp
@[simp] theorem State.expireBudget_noticeSetup (s : State) : s.expireBudget.core.noticeSetup = s.core.noticeSetup := by
  unfold State.expireBudget
  split <;> simp
@[simp] theorem State.minutePolls_noticeSetup (s : State) : s.minutePolls.core.noticeSetup = s.core.noticeSetup := by
  unfold State.minutePolls
  split <;> simp
@[simp] theorem State.minuteBlocks_noticeSetup (s : State) : s.minuteBlocks.core.noticeSetup = s.core.noticeSetup := by
  simp [State.minuteBlocks]
@[simp] theorem State.minutePasses_noticeSetup (s : State) : s.minutePasses.core.noticeSetup = s.core.noticeSetup := by
  unfold State.minutePasses
  split_ifs <;> simp
@[simp] theorem State.setClockTo_noticeSetup (s : State) (day minute : Nat) :
    (s.setClockTo day minute).core.noticeSetup = s.core.noticeSetup := by
  unfold State.setClockTo
  dsimp only
  split_ifs <;> simp

end Sys2Proof.Machine
end

section
/-! SUPPORT. The requests but SET NOTICE ENABLES leave the enables and priorities of the notices (R163). -/

namespace Sys2Proof.Machine

/-- R163: a request that changes no enable and no priority. -/
def KeepsNoticeSetup (serve : State → Reply × State) : Prop :=
  ∀ s, (serve s).2.core.noticeSetup = s.core.noticeSetup

/-! ### The forms of the requests (R154 to R157) -/

@[simp] theorem State.discardFrame_core (s : State) (kind : Nat) : (s.discardFrame kind).core = s.core := by
  simp [State.discardFrame]
/-- R154, R155, R188: a good frame does to the enables and priorities no more than the request that it carries. -/
theorem KeepsNoticeSetup.goodFrame {serve : State → Reply × State} (h : KeepsNoticeSetup serve) (s : State)
    (code tag : Byte) : (s.goodFrame serve code tag).core.noticeSetup = s.core.noticeSetup := by
  unfold State.goodFrame
  split
  · rfl
  · split
    · exact h s
    all_goals simp
theorem KeepsNoticeSetup.sized {serve : State → Reply × State} (h : KeepsNoticeSetup serve) (n : Nat) (body : Bytes) :
    KeepsNoticeSetup (sized n body serve) := by
  intro s
  unfold Machine.sized
  split
  · exact h s
  · rfl
theorem KeepsNoticeSetup.judged {act : State → Reply × State} (h : KeepsNoticeSetup act)
    (refusal : State → Option Reply) (reads : State → List Nat) : KeepsNoticeSetup (judged refusal reads act) := by
  intro s
  unfold Machine.judged
  split
  · rfl
  · rw [h, State.reading_noticeSetup]
@[simp] theorem State.runChecks_noticeSetup (s : State) (cs : List Check) :
    (s.runChecks cs).2.core.noticeSetup = s.core.noticeSetup := by
  induction cs generalizing s with
  | nil => rfl
  | cons c cs ih =>
    unfold State.runChecks
    dsimp only
    split
    · simp
    · simp [ih]
theorem KeepsNoticeSetup.checked {act : State → Reply × State} (h : KeepsNoticeSetup act) (cs : List Check)
    (reads : State → List Nat) : KeepsNoticeSetup (checked cs reads act) := by
  intro s
  obtain ⟨x, t, hrun, hserve⟩ | ⟨t, hrun, hserve⟩ := checked_cases cs reads act s
  all_goals
    have ht : t.core.noticeSetup = s.core.noticeSetup := by simpa [hrun] using s.runChecks_noticeSetup cs
    rw [hserve]
  · exact ht
  · rw [h, State.reading_noticeSetup, ht]
theorem KeepsNoticeSetup.onNumber {serve : State → Reply × State} (h : KeepsNoticeSetup serve)
    (configured : State → Bool) : KeepsNoticeSetup (onNumber configured serve) := by
  intro s
  obtain ⟨-, hserve⟩ | ⟨-, hserve⟩ := onNumber_cases configured serve s <;> rw [hserve]
  · rw [h, State.checkRecord_noticeSetup]
  · exact s.checkRecord_noticeSetup _

/-! ### Fleet (R5 to R14) -/

theorem KeepsNoticeSetup.onSelected {serve : Nat → State → Reply × State} (h : ∀ v, KeepsNoticeSetup (serve v))
    (body : Bytes) : KeepsNoticeSetup (onSelected body serve) := by
  intro s
  unfold Machine.onSelected
  split
  · rfl
  · exact h _ s
theorem KeepsNoticeSetup.onVehicle {serve : Nat → State → Reply × State} (h : ∀ v, KeepsNoticeSetup (serve v))
    (body : Bytes) : KeepsNoticeSetup (onVehicle body serve) :=
  .onSelected (fun v s => by rw [h, State.checkRecord_noticeSetup]) body

@[simp] theorem State.enrol_noticeSetup (s : State) (v : Nat) (x : Values) :
    (s.enrol v x).core.noticeSetup = s.core.noticeSetup := by
  simp [State.enrol]
theorem serveEnrolVehicle_keepsNoticeSetup (body : Bytes) : KeepsNoticeSetup (serveEnrolVehicle body) := by
  refine .sized (fun s => ?_) _ _
  split
  · rfl
  · unfold State.enrolValues
    split_ifs
    · rfl
    · rfl
    · split <;> simp
@[simp] theorem State.renameSlots_core (s : State) (v old new : Nat) : (s.renameSlots v old new).core = s.core := by
  unfold State.renameSlots
  split <;> simp
@[simp] theorem State.writeRecord_noticeSetup (s : State) (v : Nat) (r r' : Vehicle) :
    (s.writeRecord v r r').core.noticeSetup = s.core.noticeSetup := by
  simp [State.writeRecord]
@[simp] theorem State.tellStanding_core (s : State) (v : Nat) : (s.tellStanding v).core = s.core := by
  unfold State.tellStanding
  split <;> simp
@[simp] theorem State.amend_noticeSetup (s : State) (v : Nat) (a : Amendment) (r r' : Vehicle) :
    (s.amend v a r r').core.noticeSetup = s.core.noticeSetup := by
  unfold State.amend
  dsimp only
  split_ifs <;> simp
theorem serveAmendVehicle_keepsNoticeSetup (body : Bytes) : KeepsNoticeSetup (serveAmendVehicle body) := by
  refine .sized (.onSelected (fun v s => ?_) body) _ _
  dsimp only
  split
  · rfl
  · have hamend : KeepsNoticeSetup (amendOn (amendmentOf body) v) := .checked (fun t => by simp) _ _
    rw [hamend, State.checkRecord_noticeSetup]
@[simp] theorem State.retire_noticeSetup (s : State) (v : Nat) :
    (s.retire v).core.noticeSetup = s.core.noticeSetup := by
  unfold State.retire
  dsimp only
  split <;> simp
theorem serveRetireVehicle_keepsNoticeSetup (body : Bytes) : KeepsNoticeSetup (serveRetireVehicle body) :=
  .sized (.onVehicle (fun v => .judged (fun t => by simp) _ _) body) _ _
theorem serveReadVehicle_keepsNoticeSetup (body : Bytes) : KeepsNoticeSetup (serveReadVehicle body) := by
  refine .sized (.onVehicle (fun v s => ?_) body) _ _
  unfold readOn
  dsimp only
  split <;> rfl
theorem serveHoldVehicle_keepsNoticeSetup (body : Bytes) : KeepsNoticeSetup (serveHoldVehicle body) := by
  refine .sized (.onVehicle (fun v => .judged (fun t => ?_) _ _) body) _ _
  dsimp only
  split <;> simp
theorem serveSetEnergy_keepsNoticeSetup (body : Bytes) : KeepsNoticeSetup (serveSetEnergy body) :=
  .sized (.onVehicle (fun v => .checked (fun t => by simp) _ _) body) _ _

/-! ### The yard (R66 to R76, R181) -/

theorem KeepsNoticeSetup.onLane {serve : State → Reply × State} (h : KeepsNoticeSetup serve) (l : Nat) :
    KeepsNoticeSetup (onLane l serve) :=
  .onNumber (fun s => by rw [h, State.checkRecord_noticeSetup]) _
theorem serveReadLane_keepsNoticeSetup (body : Bytes) : KeepsNoticeSetup (serveReadLane body) := by
  refine .sized (.onNumber (fun s => ?_) _) _ _
  dsimp only
  split <;> simp
@[simp] theorem State.closeLane_core (s : State) (l : Nat) : (s.closeLane l).core = s.core := by
  unfold State.closeLane
  dsimp only
  split
  · split <;> simp
  · simp
  · rfl
theorem serveCloseLane_keepsNoticeSetup (body : Bytes) : KeepsNoticeSetup (serveCloseLane body) :=
  .sized (.onLane (fun s => by simp) _) _ _
theorem serveOpenLane_keepsNoticeSetup (body : Bytes) : KeepsNoticeSetup (serveOpenLane body) :=
  .sized (.onNumber (.checked (fun t => by simp [State.openLane]) _ _) _) _ _
@[simp] theorem State.verifyNamed_core (l : Nat) (s : State) (x : Nat × Nat) :
    (State.verifyNamed l s x).core = s.core := by
  unfold State.verifyNamed
  split <;> simp
@[simp] theorem State.verifyUnnamed_core (l : Nat) (s : State) (v : Nat) :
    (State.verifyUnnamed l s v).core = s.core := by
  unfold State.verifyUnnamed
  split
  · split <;> simp
  · split <;> simp
  · rfl
@[simp] theorem State.tellChanged_core (l : Nat) (new : List Entry) (s : State) (e : Entry) :
    (State.tellChanged l new s e).core = s.core := by
  unfold State.tellChanged
  split <;> simp
@[simp] theorem State.verify_core (s : State) (l : Nat) (named : List (Nat × Nat)) :
    (s.verify l named).core = s.core := by
  simp [State.verify]
theorem serveVerifyLane_keepsNoticeSetup (body : Bytes) : KeepsNoticeSetup (serveVerifyLane body) := by
  intro s
  unfold serveVerifyLane
  split
  · exact KeepsNoticeSetup.checked (fun t => by simp) _ _ s
  · rfl
@[simp] theorem State.leaveByMove_core (s : State) (v l pos : Nat) : (s.leaveByMove v l pos).core = s.core := by
  simp [State.leaveByMove]
@[simp] theorem State.moveToLane_core (s : State) (v l node : Nat) : (s.moveToLane v l node).core = s.core := by
  unfold State.moveToLane
  dsimp only
  split <;> simp
@[simp] theorem State.move_core (s : State) (v : Nat) (d : Dest) (loc : Loc) : (s.move v d loc).core = s.core := by
  unfold State.move
  split <;> simp
theorem serveMoveVehicle_keepsNoticeSetup (body : Bytes) : KeepsNoticeSetup (serveMoveVehicle body) := by
  refine .sized (fun s => ?_) _ _
  split
  · rfl
  · rfl
  · split
    · rfl
    · exact KeepsNoticeSetup.checked (fun t => by simp) _ _ s
@[simp] theorem State.releaseEntry_core (v : Nat) (s : State) (l : Nat) : (State.releaseEntry v s l).core = s.core := by
  unfold State.releaseEntry
  split <;> simp
@[simp] theorem State.releaseAll_core (s : State) (v : Nat) : (s.releaseAll v).core = s.core := by
  unfold State.releaseAll
  dsimp only
  split <;> simp
@[simp] theorem State.settleAt_core (s : State) (v pos : Nat) (d : Dest) : (s.settleAt v pos d).core = s.core := by
  cases d <;> simp [State.settleAt]
@[simp] theorem State.placed_core (s : State) (v pos : Nat) (d : Dest) : (s.placed v pos d).core = s.core := by
  unfold State.placed
  split <;> simp
theorem servePlaceVehicle_keepsNoticeSetup (body : Bytes) : KeepsNoticeSetup (servePlaceVehicle body) := by
  refine .sized (fun s => ?_) _ _
  split
  · rfl
  · split
    · rfl
    · exact KeepsNoticeSetup.checked (fun t => by simp) _ _ s

/-! ### Stations (R33, R49) -/

theorem KeepsNoticeSetup.onStation {bay wash : Nat → State → Reply × State} (hbay : ∀ n, KeepsNoticeSetup (bay n))
    (hwash : ∀ n, KeepsNoticeSetup (wash n)) (body : Bytes) : KeepsNoticeSetup (onStation body bay wash) := by
  refine .sized (fun s => ?_) _ _
  dsimp only
  split_ifs
  · rfl
  · exact KeepsNoticeSetup.onNumber (hbay _) _ s
  · exact KeepsNoticeSetup.onNumber (hwash _) _ s
theorem serveReadStation_keepsNoticeSetup (body : Bytes) : KeepsNoticeSetup (serveReadStation body) :=
  .onStation (fun b s => by simp) (fun l s => by simp) body
@[simp] theorem State.closeBay_core (s : State) (b : Nat) : (s.closeBay b).core = s.core := by
  unfold State.closeBay
  split <;> simp
@[simp] theorem State.closeWash_core (s : State) (l : Nat) : (s.closeWash l).core = s.core := by
  unfold State.closeWash
  split
  · rfl
  · split <;> simp
  all_goals simp
theorem serveCloseStation_keepsNoticeSetup (body : Bytes) : KeepsNoticeSetup (serveCloseStation body) :=
  .onStation (fun b s => by simp) (fun l s => by simp) body
@[simp] theorem State.openBay_core (s : State) (b : Nat) : (s.openBay b).core = s.core := by
  unfold State.openBay
  split <;> simp
@[simp] theorem State.openWash_core (s : State) (l : Nat) : (s.openWash l).core = s.core := by
  unfold State.openWash
  split <;> simp
theorem serveOpenStation_keepsNoticeSetup (body : Bytes) : KeepsNoticeSetup (serveOpenStation body) := by
  refine .onStation (fun b s => ?_) (fun l s => by simp) body
  dsimp only
  split <;> simp

/-! ### Energy (R96, R100 to R102) -/

theorem KeepsNoticeSetup.onPoint {serve : Nat → State → Reply × State} (h : ∀ p, KeepsNoticeSetup (serve p))
    (body : Bytes) : KeepsNoticeSetup (onPoint body serve) := .sized (.onNumber (h _) _) _ _
theorem serveSetBudget_keepsNoticeSetup (body : Bytes) : KeepsNoticeSetup (serveSetBudget body) :=
  .sized (fun s => by simp) _ _
theorem serveReadEnergy_keepsNoticeSetup (body : Bytes) : KeepsNoticeSetup (serveReadEnergy body) :=
  .sized (fun s => by simp) _ _
theorem serveReadSession_keepsNoticeSetup (body : Bytes) : KeepsNoticeSetup (serveReadSession body) := by
  refine .onPoint (fun p s => ?_) body
  dsimp only
  split <;> simp
@[simp] theorem State.stopPoint_core (s : State) (p : Nat) : (s.stopPoint p).core = s.core := by
  unfold State.stopPoint
  split <;> simp
theorem serveStopSession_keepsNoticeSetup (body : Bytes) : KeepsNoticeSetup (serveStopSession body) :=
  .onPoint (fun p => .checked (fun t => by simp) _ _) body
theorem serveResumeSession_keepsNoticeSetup (body : Bytes) : KeepsNoticeSetup (serveResumeSession body) :=
  .onPoint (fun p => .judged (fun t => by simp [State.resumePoint]) _ _) body

/-! ### The roster (R114, R120 to R129) -/

@[simp] theorem State.setPlan_core (s : State) (p : Plan) (xs : List Slot) : (s.setPlan p xs).core = s.core := by
  cases p <;> simp [State.setPlan]
@[simp] theorem State.updPlanSlot_core (s : State) (p : Plan) (n : Nat) (f : Slot → Slot) :
    (s.updPlanSlot p n f).core = s.core := by
  simp [State.updPlanSlot]
theorem KeepsNoticeSetup.onPlan {serve : Plan → State → Reply × State} (h : ∀ p, KeepsNoticeSetup (serve p))
    (n : Nat) (body : Bytes) : KeepsNoticeSetup (onPlan n body serve) := by
  refine .sized (fun s => ?_) _ _
  split
  · exact h _ s
  · rfl
@[simp] theorem State.checkSlot_noticeSetup (s : State) (p : Plan) (n : Nat) :
    (s.checkSlot p n).core.noticeSetup = s.core.noticeSetup := by
  unfold State.checkSlot
  split <;> simp
theorem KeepsNoticeSetup.onSlot {serve : Plan → Slot → State → Reply × State} (h : ∀ p x, KeepsNoticeSetup (serve p x))
    (n : Nat) (p : Plan) : KeepsNoticeSetup (onSlot n serve p) := by
  intro s
  unfold Machine.onSlot withSlot
  split
  · rw [h, State.checkSlot_noticeSetup]
  · exact s.checkSlot_noticeSetup p n
theorem KeepsNoticeSetup.checkedSlot {act : Slot → State → State}
    (h : ∀ x s, (act x s).core.noticeSetup = s.core.noticeSetup) (p : Plan) (n : Nat) (cs : List SlotCheck)
    (reads : Slot → State → List Nat) : KeepsNoticeSetup (checkedSlot p n cs reads act) := by
  refine .checked (fun s => ?_) _ _
  dsimp only
  cases slotIn (s.plan p) n with
  | none => rfl
  | some x => exact h x s

@[simp] theorem State.addSlot_core (s : State) (p : Plan) (n : Nat) (x : SlotFields) :
    (s.addSlot p n x).core = s.core := by
  simp [State.addSlot]
theorem serveAddSlot_keepsNoticeSetup (body : Bytes) : KeepsNoticeSetup (serveAddSlot body) :=
  .onPlan (fun p => .checked (fun t => by simp) _ _) _ _
@[simp] theorem State.amendSlot_core (s : State) (p : Plan) (y y' : Slot) : (s.amendSlot p y y').core = s.core := by
  unfold State.amendSlot
  dsimp only
  split
  · split <;> simp
  · simp
theorem serveAmendSlot_keepsNoticeSetup (body : Bytes) : KeepsNoticeSetup (serveAmendSlot body) := by
  refine .onPlan (fun p s => ?_) _ _
  split
  · rfl
  · refine KeepsNoticeSetup.onSlot (fun p y => .checkedSlot (fun z t => ?_) _ _ _ _) _ _ s
    split <;> simp
@[simp] theorem State.cancelSlot_core (s : State) (p : Plan) (x : Slot) : (s.cancelSlot p x).core = s.core := by
  unfold State.cancelSlot
  split
  · simp
  · split
    · simp
    · dsimp only
      split <;> simp
theorem serveCancelSlot_keepsNoticeSetup (body : Bytes) : KeepsNoticeSetup (serveCancelSlot body) :=
  .onPlan (.onSlot (fun p x => .checkedSlot (fun y t => by simp) _ _ _ _) _) _ _
@[simp] theorem State.assign_core (s : State) (p : Plan) (x : Slot) (v fleet : Nat) :
    (s.assign p x v fleet).core = s.core := by
  cases p <;> simp [State.assign]
theorem serveAssign_keepsNoticeSetup (body : Bytes) : KeepsNoticeSetup (serveAssign body) := by
  refine .onPlan (fun p s => ?_) _ _
  split_ifs
  · rfl
  · rfl
  · refine KeepsNoticeSetup.onSlot (fun p x => .checkedSlot (fun y t => ?_) _ _ _ _) _ _ s
    split <;> simp
@[simp] theorem State.unassign_core (s : State) (p : Plan) (x : Slot) : (s.unassign p x).core = s.core := by
  unfold State.unassign
  dsimp only
  split <;> simp
theorem serveUnassign_keepsNoticeSetup (body : Bytes) : KeepsNoticeSetup (serveUnassign body) := by
  refine .onPlan (.onSlot (fun p x => .checkedSlot (fun y t => ?_) _ _ _ _) _) _ _
  split <;> simp
theorem serveReadSlot_keepsNoticeSetup (body : Bytes) : KeepsNoticeSetup (serveReadSlot body) := by
  refine .onPlan (.onSlot (fun p x s => ?_) _) _ _
  split <;> rfl
theorem serveClearStaged_keepsNoticeSetup (body : Bytes) : KeepsNoticeSetup (serveClearStaged body) :=
  .sized (fun s => by simp [State.clearStaged_core]) _ _
theorem serveMarkStaged_keepsNoticeSetup (body : Bytes) : KeepsNoticeSetup (serveMarkStaged body) := by
  refine .sized (fun s => ?_) _ _
  split <;> rfl
theorem serveCommitPlan_keepsNoticeSetup (body : Bytes) : KeepsNoticeSetup (serveCommitPlan body) :=
  .sized (fun s => KeepsNoticeSetup.checked (fun t => by simp) _ _ s) _ _
theorem callNow_keepsNoticeSetup (n : Nat) : KeepsNoticeSetup (callNow n) := by
  refine .checkedSlot (fun x s => ?_) _ _ _ _
  cases x.assigned <;> simp
theorem serveCallNow_keepsNoticeSetup (body : Bytes) : KeepsNoticeSetup (serveCallNow body) := by
  refine .sized (fun s => ?_) _ _
  split
  · exact KeepsNoticeSetup.onSlot (fun _ x => callNow_keepsNoticeSetup x.num) _ _ s
  · rfl
theorem serveListDue_keepsNoticeSetup (body : Bytes) : KeepsNoticeSetup (serveListDue body) :=
  .sized (fun s => by simp) _ _

/-! ### The part (R148, R162, R168, R182 to R187) -/

theorem serveReadClock_keepsNoticeSetup (body : Bytes) : KeepsNoticeSetup (serveReadClock body) :=
  .sized (fun _ => rfl) _ _
theorem serveSetClock_keepsNoticeSetup (body : Bytes) : KeepsNoticeSetup (serveSetClock body) := by
  refine .sized (fun s => ?_) _ _
  split <;> simp
theorem KeepsNoticeSetup.onKey {serve : Key → State → Reply × State} (h : ∀ k, KeepsNoticeSetup (serve k)) (n : Nat)
    (body : Bytes) : KeepsNoticeSetup (onKey n body serve) := by
  refine .sized (fun s => ?_) _ _
  split
  · rfl
  · exact h _ s
theorem serveReadSetting_keepsNoticeSetup (body : Bytes) : KeepsNoticeSetup (serveReadSetting body) :=
  .onKey (fun k s => by simp) _ _
theorem serveWriteSetting_keepsNoticeSetup (body : Bytes) : KeepsNoticeSetup (serveWriteSetting body) :=
  .onKey (fun k => .judged (fun t => by simp [State.writeSetting]) _ _) _ _
theorem serveStoreSettings_keepsNoticeSetup (body : Bytes) : KeepsNoticeSetup (serveStoreSettings body) := by
  refine .sized (fun s => ?_) _ _
  split <;> simp
theorem serveReadNotices_keepsNoticeSetup (body : Bytes) : KeepsNoticeSetup (serveReadNotices body) :=
  .sized (fun _ => rfl) _ _
theorem serveClearNotices_keepsNoticeSetup (body : Bytes) : KeepsNoticeSetup (serveClearNotices body) :=
  .sized (fun _ => rfl) _ _
theorem serveReadFault_keepsNoticeSetup (body : Bytes) : KeepsNoticeSetup (serveReadFault body) :=
  .sized (fun _ => rfl) _ _
@[simp] theorem State.enterCensusOr_noticeSetup (s : State) (m : PartMode) :
    (s.enterCensusOr m).core.noticeSetup = s.core.noticeSetup := by
  simp [State.enterCensusOr]
@[simp] theorem State.releaseFault_noticeSetup (s : State) (release clear : Bool) :
    (s.releaseFault release clear).core.noticeSetup = s.core.noticeSetup := by
  unfold State.releaseFault
  dsimp only
  split <;> simp
theorem serveReleaseFault_keepsNoticeSetup (body : Bytes) : KeepsNoticeSetup (serveReleaseFault body) := by
  refine .sized (fun s => ?_) _ _
  split <;> simp
theorem serveBeginCensus_keepsNoticeSetup (body : Bytes) : KeepsNoticeSetup (serveBeginCensus body) := by
  refine .sized (fun s => ?_) _ _
  split <;> simp
@[simp] theorem State.finishCensus_noticeSetup (s : State) :
    s.finishCensus.2.core.noticeSetup = s.core.noticeSetup := by
  simp [State.finishCensus]
theorem serveFinishCensus_keepsNoticeSetup (body : Bytes) : KeepsNoticeSetup (serveFinishCensus body) := by
  refine .sized (fun s => ?_) _ _
  split <;> simp
theorem serveEnterConfigure_keepsNoticeSetup (body : Bytes) : KeepsNoticeSetup (serveEnterConfigure body) := by
  refine .sized (fun s => ?_) _ _
  split <;> simp
theorem serveLeaveConfigure_keepsNoticeSetup (body : Bytes) : KeepsNoticeSetup (serveLeaveConfigure body) := by
  refine .sized (fun s => ?_) _ _
  dsimp only
  split_ifs <;> simp
theorem serveStopYard_keepsNoticeSetup (body : Bytes) : KeepsNoticeSetup (serveStopYard body) := by
  refine .sized (fun s => ?_) _ _
  dsimp only
  split <;> simp
theorem serveRestart_keepsNoticeSetup (body : Bytes) : KeepsNoticeSetup (serveRestart body) := .sized (fun _ => rfl) _ _
theorem serveIdentify_keepsNoticeSetup (body : Bytes) : KeepsNoticeSetup (serveIdentify body) :=
  .sized (fun _ => rfl) _ _
theorem serveReadNodes_keepsNoticeSetup (body : Bytes) : KeepsNoticeSetup (serveReadNodes body) :=
  .sized (fun _ => rfl) _ _

/-! ### Requests by their code (8.5, R157) -/

theorem serveYardCode_keepsNoticeSetup {code : Nat} {serve : Bytes → State → Reply × State}
    (h : serveYardCode code = some serve) (body : Bytes) : KeepsNoticeSetup (serve body) := by
  unfold serveYardCode at h
  split at h <;> cases h
  · exact serveEnrolVehicle_keepsNoticeSetup body
  · exact serveAmendVehicle_keepsNoticeSetup body
  · exact serveRetireVehicle_keepsNoticeSetup body
  · exact serveReadVehicle_keepsNoticeSetup body
  · exact serveHoldVehicle_keepsNoticeSetup body
  · exact serveSetEnergy_keepsNoticeSetup body
  · exact serveReadLane_keepsNoticeSetup body
  · exact serveCloseLane_keepsNoticeSetup body
  · exact serveOpenLane_keepsNoticeSetup body
  · exact serveVerifyLane_keepsNoticeSetup body
  · exact serveMoveVehicle_keepsNoticeSetup body
  · exact servePlaceVehicle_keepsNoticeSetup body
  · exact serveReadStation_keepsNoticeSetup body
  · exact serveCloseStation_keepsNoticeSetup body
  · exact serveOpenStation_keepsNoticeSetup body
theorem serveRosterCode_keepsNoticeSetup {code : Nat} {serve : Bytes → State → Reply × State}
    (h : serveRosterCode code = some serve) (body : Bytes) : KeepsNoticeSetup (serve body) := by
  unfold serveRosterCode at h
  split at h <;> cases h
  · exact serveSetBudget_keepsNoticeSetup body
  · exact serveReadEnergy_keepsNoticeSetup body
  · exact serveReadSession_keepsNoticeSetup body
  · exact serveStopSession_keepsNoticeSetup body
  · exact serveResumeSession_keepsNoticeSetup body
  · exact serveAddSlot_keepsNoticeSetup body
  · exact serveAmendSlot_keepsNoticeSetup body
  · exact serveCancelSlot_keepsNoticeSetup body
  · exact serveAssign_keepsNoticeSetup body
  · exact serveUnassign_keepsNoticeSetup body
  · exact serveReadSlot_keepsNoticeSetup body
  · exact serveClearStaged_keepsNoticeSetup body
  · exact serveMarkStaged_keepsNoticeSetup body
  · exact serveCommitPlan_keepsNoticeSetup body
  · exact serveCallNow_keepsNoticeSetup body
  · exact serveListDue_keepsNoticeSetup body
theorem servePartCode_keepsNoticeSetup {code : Nat} {serve : Bytes → State → Reply × State}
    (h : servePartCode code = some serve) (hcode : code ≠ 0x87) (body : Bytes) : KeepsNoticeSetup (serve body) := by
  unfold servePartCode at h
  split at h <;> cases h
  · exact serveReadClock_keepsNoticeSetup body
  · exact serveSetClock_keepsNoticeSetup body
  · exact serveReadSetting_keepsNoticeSetup body
  · exact serveWriteSetting_keepsNoticeSetup body
  · exact serveStoreSettings_keepsNoticeSetup body
  · exact serveReadNotices_keepsNoticeSetup body
  · exact serveClearNotices_keepsNoticeSetup body
  · exact absurd rfl hcode
  · exact serveReadFault_keepsNoticeSetup body
  · exact serveReleaseFault_keepsNoticeSetup body
  · exact serveBeginCensus_keepsNoticeSetup body
  · exact serveFinishCensus_keepsNoticeSetup body
  · exact serveEnterConfigure_keepsNoticeSetup body
  · exact serveLeaveConfigure_keepsNoticeSetup body
  · exact serveStopYard_keepsNoticeSetup body
  · exact serveRestart_keepsNoticeSetup body
  · exact serveIdentify_keepsNoticeSetup body
  · exact serveReadNodes_keepsNoticeSetup body
/-- R157, R163: of the codes, that of SET NOTICE ENABLES alone reaches an enable or a priority. -/
theorem serveByCode_keepsNoticeSetup {code : Byte} (hcode : code ≠ 0x87#8) (body : Bytes) :
    KeepsNoticeSetup (serveByCode code body) := by
  intro s
  unfold serveByCode
  split
  case h_1 serve hserve =>
    simp only [Option.orElse_eq_orElse, Option.orElse_eq_or, Option.or_eq_some_iff] at hserve
    have hne : code.toNat ≠ 0x87 := fun h => hcode (BitVec.eq_of_toNat_eq h)
    obtain hyard | ⟨-, hroster | ⟨-, hpart⟩⟩ := hserve
    · exact serveYardCode_keepsNoticeSetup hyard body s
    · exact serveRosterCode_keepsNoticeSetup hroster body s
    · exact servePartCode_keepsNoticeSetup hpart hne body s
  case h_2 => rfl

end Sys2Proof.Machine
end

section
/-! SUPPORT. What arrives by the bus and with time leaves the enables and priorities of the notices (R163). -/

namespace Sys2Proof.Machine

/-! ### Gate queries (R21, R22, R116 to R119, R140) -/

@[simp] theorem State.toPad_core (s : State) (v p : Nat) : (s.toPad v p).core = s.core := by
  unfold State.toPad
  dsimp only
  split <;> simp
@[simp] theorem State.toGateQueue_core (s : State) (gate v : Nat) : (s.toGateQueue gate v).core = s.core := by
  simp [State.toGateQueue]
@[simp] theorem State.admitArrival_core (s : State) (gate v : Nat) : (s.admitArrival gate v).2.core = s.core := by
  unfold State.admitArrival
  dsimp only
  generalize (if s.service.gate1.isEmpty && s.service.gate2.isEmpty then s.freePad? else none) = room
  cases room with
  | none => dsimp only; split <;> simp
  | some p => simp
@[simp] theorem State.gateIn_core (s : State) (gate tag : Nat) : (s.gateIn gate tag).2.core = s.core := by
  unfold State.gateIn
  split
  · split <;> simp
  · split_ifs <;> simp
@[simp] theorem State.calledExit_core (s : State) (v : Nat) : (s.calledExit v).core = s.core := by
  unfold State.calledExit
  dsimp only
  split <;> simp
@[simp] theorem State.goneUncalled_core (s : State) (v : Nat) : (s.goneUncalled v).core = s.core := by
  unfold State.goneUncalled
  split <;> simp
@[simp] theorem State.uncalledExit_core (s : State) (v : Nat) : (s.uncalledExit v).core = s.core := by
  simp [State.uncalledExit]
@[simp] theorem State.gateOut_core (s : State) (gate tag : Nat) : (s.gateOut gate tag).2.core = s.core := by
  unfold State.gateOut
  split
  · rfl
  · split
    · simp
    · dsimp only
      split
      · simp
      · split <;> simp
      · simp
@[simp] theorem State.markHeard_noticeSetup (s : State) (node : Nat) :
    (s.markHeard node).core.noticeSetup = s.core.noticeSetup := by
  unfold State.markHeard
  split <;> rfl
@[simp] theorem State.decideGate_core (s : State) (gate dir tag : Nat) :
    (s.decideGate gate dir tag).2.core = s.core := by
  unfold State.decideGate
  split_ifs <;> simp
@[simp] theorem State.answerGate_noticeSetup (s : State) (source : Byte) (gate dir tag : Nat) :
    (s.answerGate source gate dir tag).core.noticeSetup = s.core.noticeSetup := by
  simp [State.answerGate]
@[simp] theorem State.newTransaction_noticeSetup (s : State) :
    s.newTransaction.core.noticeSetup = s.core.noticeSetup := rfl
@[simp] theorem State.hearBus_noticeSetup (s : State) : s.hearBus.core.noticeSetup = s.core.noticeSetup := by
  simp [State.hearBus]
@[simp] theorem State.gateRead_noticeSetup (s : State) (source : Byte) (gate dir tag : Nat) :
    (s.gateRead source gate dir tag).core.noticeSetup = s.core.noticeSetup := by
  unfold State.gateRead
  split_ifs <;> simp
@[simp] theorem State.loseAnswer_noticeSetup (s : State) : s.loseAnswer.core.noticeSetup = s.core.noticeSetup := by
  unfold State.loseAnswer
  split <;> simp

/-! ### Messages on the bus (R133 to R147) -/

@[simp] theorem State.setInbound_noticeSetup (s : State) (q : List InMsg) :
    (s.setInbound q).core.noticeSetup = s.core.noticeSetup := rfl
@[simp] theorem State.queueReport_noticeSetup (s : State) (m : InMsg) :
    (s.queueReport m).core.noticeSetup = s.core.noticeSetup := by
  simp [State.queueReport]
@[simp] theorem State.busMessage_noticeSetup (s : State) (msg : Bytes) :
    (s.busMessage msg).core.noticeSetup = s.core.noticeSetup := by
  unfold State.busMessage
  split
  · dsimp only
    split
    · simp
    · split <;> simp
  · rfl
@[simp] theorem State.setpointBegun_core (s : State) (m : OutMsg) : (s.setpointBegun m).core = s.core := by
  unfold State.setpointBegun
  split <;> simp
@[simp] theorem State.sendStart_noticeSetup (s : State) : s.sendStart.core.noticeSetup = s.core.noticeSetup := by
  unfold State.sendStart
  split
  · split <;> simp
  · rfl
@[simp] theorem State.loseTo_noticeSetup (s : State) (dest : Byte) :
    (s.loseTo dest).core.noticeSetup = s.core.noticeSetup := by
  unfold State.loseTo
  dsimp only
  split <;> rfl
@[simp] theorem State.arbitrationLost_noticeSetup (s : State) (dest : Byte) :
    (s.arbitrationLost dest).core.noticeSetup = s.core.noticeSetup := by
  unfold State.arbitrationLost
  split
  · split <;> simp
  · rfl
@[simp] theorem State.setpointTaken_core (s : State) (m : OutMsg) : (s.setpointTaken m).core = s.core := by
  unfold State.setpointTaken
  split <;> simp
@[simp] theorem State.setpointRefused_core (s : State) (m : OutMsg) : (s.setpointRefused m).core = s.core := by
  unfold State.setpointRefused
  split <;> simp
@[simp] theorem State.clearPoll_noticeSetup (s : State) (node : Nat) :
    (s.clearPoll node).core.noticeSetup = s.core.noticeSetup := by
  unfold State.clearPoll
  split <;> rfl
@[simp] theorem State.leaveQueue_noticeSetup (s : State) : s.leaveQueue.core.noticeSetup = s.core.noticeSetup := rfl
@[simp] theorem State.sent_noticeSetup (s : State) (m : OutMsg) : (s.sent m).core.noticeSetup = s.core.noticeSetup := by
  unfold State.sent
  dsimp only
  split <;> simp
@[simp] theorem State.failPoll_noticeSetup (s : State) (node : Nat) :
    (s.failPoll node).core.noticeSetup = s.core.noticeSetup := by
  unfold State.failPoll
  split
  · simp
  · dsimp only
    split <;> simp
@[simp] theorem State.hearFailed_noticeSetup (s : State) (m : OutMsg) (destAcked : Bool) :
    (s.hearFailed m destAcked).core.noticeSetup = s.core.noticeSetup := by
  unfold State.hearFailed
  split_ifs
  · rfl
  · split <;> rfl
  · simp
@[simp] theorem State.notAcknowledged_noticeSetup (s : State) (m : OutMsg) (destAcked : Bool) :
    (s.notAcknowledged m destAcked).core.noticeSetup = s.core.noticeSetup := by
  unfold State.notAcknowledged
  dsimp only
  split_ifs <;> simp
theorem State.endSending_noticeSetup {f : OutMsg → State → State}
    (h : ∀ m s, (f m s).core.noticeSetup = s.core.noticeSetup) (s : State) :
    (s.endSending f).core.noticeSetup = s.core.noticeSetup := by
  unfold State.endSending
  split
  · rw [h, State.reading_noticeSetup]
  · rfl
@[simp] theorem State.stuckBus_noticeSetup (s : State) : s.stuckBus.core.noticeSetup = s.core.noticeSetup := by
  unfold State.stuckBus
  split <;> simp

/-! ### Bay reports (R27 to R31) -/

theorem State.takeReport_noticeSetup {act : InMsg → State → State}
    (h : ∀ m s, (act m s).core.noticeSetup = s.core.noticeSetup) (p : InMsg → Bool) (s : State) :
    (s.takeReport p act).core.noticeSetup = s.core.noticeSetup := by
  unfold State.takeReport
  split
  · split
    · rw [h, State.setInbound_noticeSetup]
    · rfl
  · rfl
theorem State.bayReport_noticeSetup {act : Nat → Nat → State → State} (h : ∀ b tag s, (act b tag s).core = s.core)
    (event : Nat) (s : State) : (s.bayReport event act).core.noticeSetup = s.core.noticeSetup := by
  refine State.takeReport_noticeSetup (fun m u => ?_) _ s
  dsimp only
  split <;> simp [h]
@[simp] theorem State.drawnIn_core (s : State) (b v : Nat) : (s.drawnIn b v).core = s.core := by
  unfold State.drawnIn
  dsimp only
  split
  · simp
  · split <;> simp
  all_goals simp
theorem bayArrived_core (b tag : Nat) (s : State) : (bayArrived b tag s).core = s.core := by
  unfold bayArrived
  split
  · split <;> simp
  · simp
theorem bayDone_core (b tag : Nat) (s : State) : (bayDone b tag s).core = s.core := by
  unfold bayDone
  split <;> simp
@[simp] theorem State.loseStranded_core (s : State) (v : Nat) : (s.loseStranded v).core = s.core := by
  simp [State.loseStranded]
@[simp] theorem State.emptyBay_core (s : State) (b : Nat) : (s.emptyBay b).core = s.core := rfl
@[simp] theorem State.clearFinished_core (s : State) (b : Nat) : (s.clearFinished b).core = s.core := by
  unfold State.clearFinished
  split
  · simp
  · split_ifs <;> simp
@[simp] theorem State.clearServing_core (s : State) (b : Nat) : (s.clearServing b).core = s.core := by
  unfold State.clearServing
  split <;> simp
@[simp] theorem State.clearFaulted_core (s : State) (b : Nat) : (s.clearFaulted b).core = s.core := by
  unfold State.clearFaulted
  split
  · rfl
  · split_ifs <;> simp
theorem bayClear_core (b tag : Nat) (s : State) : (bayClear b tag s).core = s.core := by
  unfold bayClear
  split <;> simp
theorem bayFault_core (b tag : Nat) (s : State) : (bayFault b tag s).core = s.core := by
  unfold bayFault
  dsimp only
  split <;> simp
theorem bayRestored_core (b tag : Nat) (s : State) : (bayRestored b tag s).core = s.core := by
  unfold bayRestored
  dsimp only
  split
  · simp
  · split <;> simp
  · rfl

/-! ### Wash reports (R44 to R47) -/

theorem State.washReport_noticeSetup {act : Nat → State → State} (h : ∀ l s, (act l s).core = s.core) (event : Nat)
    (s : State) : (s.washReport event act).core.noticeSetup = s.core.noticeSetup := by
  refine State.takeReport_noticeSetup (fun m u => ?_) _ s
  dsimp only
  split <;> simp [h]
theorem washEntered_core (l : Nat) (s : State) : (washEntered l s).core = s.core := by
  unfold washEntered
  dsimp only
  split
  · split <;> simp
  · rfl
theorem washDone_core (l : Nat) (s : State) : (washDone l s).core = s.core := by
  unfold washDone
  split
  · split <;> simp
  · rfl
/-- R46: each vehicle of a faulted lane's queue is handed to the other lane or to placement, or stays. -/
theorem emptyFaulted_core (l : Nat) (placing : Bool) (es : List WashEntry) (s : State) :
    (emptyFaulted l placing es s).2.core = s.core := by
  induction es generalizing placing s with
  | nil => rfl
  | cons e es ih =>
    unfold emptyFaulted
    dsimp only
    split
    · split
      · simp [ih]
      · split
        next hplaced => rw [ih, State.tryPlace_core hplaced]
        next => simp [ih]
    · exact ih placing s
@[simp] theorem State.emptyWash_core (s : State) (l : Nat) : (s.emptyWash l).core = s.core := by
  simp [State.emptyWash, emptyFaulted_core]
theorem washFault_core (l : Nat) (s : State) : (washFault l s).core = s.core := by
  unfold washFault
  dsimp only
  split <;> simp
theorem washClear_core (l : Nat) (s : State) : (washClear l s).core = s.core := by
  unfold washClear
  split
  · split <;> simp
  · split <;> simp
  · rfl
theorem washRestored_core (l : Nat) (s : State) : (washRestored l s).core = s.core := by
  unfold washRestored
  dsimp only
  split <;> simp

/-! ### Reports of lanes, points and the meter (R61, R79, R82, R96) -/

@[simp] theorem State.followUp_noticeSetup (s : State) (passFirst retry pass : Bool) :
    (s.followUp passFirst retry pass).core.noticeSetup = s.core.noticeSetup := by
  unfold State.followUp
  dsimp only
  split <;> simp
@[simp] theorem State.laneReport_noticeSetup (s : State) (passFirst : Bool) (l : Nat) (set : BitVec 8) :
    (s.laneReport passFirst l set).core.noticeSetup = s.core.noticeSetup := by
  simp [State.laneReport]
theorem takeLane_noticeSetup (passFirst : Bool) (m : InMsg) (s : State) :
    (takeLane passFirst m s).core.noticeSetup = s.core.noticeSetup := by
  unfold takeLane
  dsimp only
  split <;> simp
@[simp] theorem State.takeCounter_core (s : State) (p count : Nat) : (s.takeCounter p count).core = s.core := by
  simp [State.takeCounter]
@[simp] theorem State.takeAcceptance_core (s : State) (p kw : Nat) : (s.takeAcceptance p kw).core = s.core := by
  unfold State.takeAcceptance
  dsimp only
  split_ifs <;> simp
@[simp] theorem State.plugCheck_core (s : State) (p : Nat) : (s.plugCheck p).core = s.core := by
  unfold State.plugCheck
  dsimp only
  split <;> simp
@[simp] theorem State.changeCond_core (s : State) (p count : Nat) (c : Cond) :
    (s.changeCond p count c).core = s.core := by
  unfold State.changeCond
  dsimp only
  split
  · simp
  · simp
  all_goals split <;> simp
@[simp] theorem State.takeCond_core (s : State) (p count : Nat) (c : Cond) : (s.takeCond p count c).core = s.core := by
  unfold State.takeCond
  split <;> simp
@[simp] theorem State.pointReport_core (s : State) (p count kw : Nat) (c : Cond) :
    (s.pointReport p count kw c).core = s.core := by
  simp [State.pointReport]
theorem takePoint_noticeSetup (m : InMsg) (s : State) : (takePoint m s).core.noticeSetup = s.core.noticeSetup := by
  unfold takePoint
  dsimp only
  split
  · rfl
  · split_ifs <;> simp
theorem takeLimit_noticeSetup (m : InMsg) (s : State) : (takeLimit m s).core.noticeSetup = s.core.noticeSetup := by
  unfold takeLimit
  dsimp only
  split_ifs <;> simp

/-! ### What time brings (R32, R43, R64, R97, R113, R118, R176, R184, R187) -/

@[simp] theorem State.minuteEvent_noticeSetup (s : State) (wear : List MemError) :
    (s.minuteEvent wear).core.noticeSetup = s.core.noticeSetup := by
  unfold State.minuteEvent
  split <;> simp
@[simp] theorem State.rolloverEvent_noticeSetup (s : State) :
    s.rolloverEvent.core.noticeSetup = s.core.noticeSetup := by
  unfold State.rolloverEvent
  split <;> simp
@[simp] theorem State.bayExpiry_noticeSetup (s : State) (b : Nat) :
    (s.bayExpiry b).core.noticeSetup = s.core.noticeSetup := by
  unfold State.bayExpiry
  dsimp only
  split_ifs <;> simp
@[simp] theorem State.washExpiry_noticeSetup (s : State) (l : Nat) :
    (s.washExpiry l).core.noticeSetup = s.core.noticeSetup := by
  unfold State.washExpiry
  split <;> simp
@[simp] theorem State.laneExpiry_noticeSetup (s : State) (v : Nat) :
    (s.laneExpiry v).core.noticeSetup = s.core.noticeSetup := by
  unfold State.laneExpiry
  split <;> simp
@[simp] theorem State.budgetExpiry_noticeSetup (s : State) : s.budgetExpiry.core.noticeSetup = s.core.noticeSetup := by
  unfold State.budgetExpiry
  split <;> simp
@[simp] theorem State.callExpiry_noticeSetup (s : State) (n : Nat) :
    (s.callExpiry n).core.noticeSetup = s.core.noticeSetup := by
  unfold State.callExpiry
  split
  · split <;> simp
  · rfl
@[simp] theorem State.graceExpiry_noticeSetup (s : State) (n : Nat) :
    (s.graceExpiry n).core.noticeSetup = s.core.noticeSetup := by
  unfold State.graceExpiry
  dsimp only
  split_ifs <;> simp
@[simp] theorem State.storeComplete_noticeSetup (s : State) :
    s.storeComplete.core.noticeSetup = s.core.noticeSetup := by
  unfold State.storeComplete
  split <;> simp
@[simp] theorem State.sparingComplete_noticeSetup (s : State) :
    s.sparingComplete.core.noticeSetup = s.core.noticeSetup := by
  unfold State.sparingComplete
  split <;> simp
@[simp] theorem State.frameGap_noticeSetup (s : State) : s.frameGap.core.noticeSetup = s.core.noticeSetup := by
  unfold State.frameGap
  split <;> simp [State.dropFrame]

end Sys2Proof.Machine
end

section
/-! SUPPORT. SET NOTICE ENABLES and the attention lines, and what every other command leaves of the enables and
priorities (R160, R163). -/

namespace Sys2Proof.Machine

/-! ### The attention lines (R160) -/

/-- A word is not 0 where it has a bit. -/
theorem bitVec_bne_zero_iff {w : Nat} (x : BitVec w) : (x != 0#w) = true ↔ ∃ i, i < w ∧ x.getLsbD i = true := by
  constructor
  · intro hne
    by_contra! hnone
    have hzero : x = 0#w := BitVec.eq_of_getLsbD_eq fun i hi => by simpa using hnone i hi
    simp [hzero] at hne
  · rintro ⟨i, -, hbit⟩
    simp only [bne_iff_ne, ne_eq]
    rintro rfl
    simp at hbit
/-- R160: ATTN-U stands for a kind that is pending, enabled and urgent. -/
theorem Notices.attnU_iff (n : Notices) : n.attnU = true ↔
    ∃ i, i < 16 ∧ n.pending.getLsbD i = true ∧ n.enables.getLsbD i = true ∧ n.urgents.getLsbD i = true := by
  simp only [Notices.attnU, bitVec_bne_zero_iff, BitVec.getLsbD_and, Bool.and_eq_true, and_assoc]
/-- R160: ATTN-R stands for a kind that is pending, enabled and routine. -/
theorem Notices.attnR_iff (n : Notices) : n.attnR = true ↔
    ∃ i, i < 16 ∧ n.pending.getLsbD i = true ∧ n.enables.getLsbD i = true ∧ n.urgents.getLsbD i = false := by
  simp only [Notices.attnR, bitVec_bne_zero_iff, BitVec.getLsbD_and, BitVec.getLsbD_not, Bool.and_eq_true,
    Bool.not_eq_true', decide_eq_true_eq, and_assoc]
  exact exists_congr fun i => by tauto

/-! ### SET NOTICE ENABLES (R163) -/

theorem at8_drop (b : Bytes) (k i : Nat) : at8 (b.drop k) i = at8 b (k + i) := by
  simp [at8]
/-- R163: some priority code is above 1, where the body has one for each of sixteen kinds. -/
theorem any_code_above_one_iff {body : Bytes} (h : body.length = 18) :
    (body.drop 2).any (fun c => decide (1 < c.toNat)) = true ↔ ∃ i, i < 16 ∧ 1 < at8 body (2 + i) := by
  simp only [List.any_eq_true, List.mem_iff_getElem?, decide_eq_true_eq, ← at8_drop]
  constructor
  · rintro ⟨c, ⟨i, hi⟩, hc⟩
    obtain ⟨hlt, -⟩ := List.getElem?_eq_some_iff.mp hi
    rw [List.length_drop, h] at hlt
    exact ⟨i, hlt, by simpa [at8, hi] using hc⟩
  · rintro ⟨i, hi, hc⟩
    have hlt : i < (body.drop 2).length := by rw [List.length_drop, h]; exact hi
    have hget := List.getElem?_eq_getElem hlt
    exact ⟨(body.drop 2)[i], ⟨i, hget⟩, by simpa [at8, hget] using hc⟩
/-- R163: the priorities as the first `n` codes give them. -/
theorem priorities_foldl_getLsbD (codes : Bytes) (n i : Nat) (hi : i < 16) :
    ((List.range n).foldl (fun acc k => if at8 codes k = 1 then acc ||| (1#16 <<< k) else acc) 0#16).getLsbD i =
      decide (i < n ∧ at8 codes i = 1) := by
  induction n with
  | zero => simp
  | succ n ih =>
    rw [List.range_succ, List.foldl_append, List.foldl_cons, List.foldl_nil]
    by_cases hin : i = n
    · subst hin
      split <;> simp_all
    · simp only [Nat.lt_succ_iff_lt_or_eq, hin, or_false]
      split
      · have hbit : (1#16 <<< n).getLsbD i = false := by
          simp only [BitVec.getLsbD_shiftLeft, BitVec.getLsbD_one]
          grind
        rw [BitVec.getLsbD_or, ih, hbit, Bool.or_false]
      · exact ih
/-- R163: a kind is urgent where its code is 1. -/
theorem prioritiesOf_getLsbD (codes : Bytes) {i : Nat} (hi : i < 16) :
    (prioritiesOf codes).getLsbD i = decide (at8 codes i = 1) := by
  rw [prioritiesOf, priorities_foldl_getLsbD codes 16 i hi]
  simp [hi]
/-- R163: the notices with the enables and priorities that a body gives. -/
def Notices.setUp (n : Notices) (body : Bytes) : Notices :=
  { n with enables := BitVec.ofNat 16 (at16 body 0), urgents := prioritiesOf (body.drop 2) }
theorem Notices.setUp_urgents_getLsbD (n : Notices) (body : Bytes) {i : Nat} (hi : i < 16) :
    (n.setUp body).urgents.getLsbD i = decide (at8 body (2 + i) = 1) := by
  rw [Notices.setUp, prioritiesOf_getLsbD _ hi, at8_drop]
theorem serveSetNoticeEnables_malformed {body : Bytes} (hlen : body.length = 18)
    (h : ∃ i, i < 16 ∧ 1 < at8 body (2 + i)) (s : State) :
    serveSetNoticeEnables body s = (refuse .malformed, s) := by
  rw [serveSetNoticeEnables, sized_eq _ s hlen, if_pos ((any_code_above_one_iff hlen).mpr h)]
theorem serveSetNoticeEnables_taken {body : Bytes} (hlen : body.length = 18)
    (h : ∀ i, i < 16 → at8 body (2 + i) ≤ 1) (s : State) :
    serveSetNoticeEnables body s = (done [], { s with notices := s.notices.setUp body }) := by
  have hnone : ¬ ∃ i, i < 16 ∧ 1 < at8 body (2 + i) := by
    rintro ⟨i, hi, hc⟩
    exact absurd (h i hi) (by omega)
  rw [serveSetNoticeEnables, sized_eq _ s hlen, if_neg (mt (any_code_above_one_iff hlen).mp hnone)]
  rfl
/-- R163: the attention lines follow the enables and priorities that have been set. -/
theorem Notices.setUp_attnU_iff (n : Notices) (body : Bytes) : (n.setUp body).attnU = true ↔
    ∃ i, i < 16 ∧ (n.setUp body).pending.getLsbD i = true ∧ (n.setUp body).enables.getLsbD i = true ∧
      at8 body (2 + i) = 1 := by
  rw [Notices.attnU_iff]
  refine exists_congr fun i => and_congr_right fun hi => ?_
  rw [Notices.setUp_urgents_getLsbD n body hi, decide_eq_true_eq]
theorem Notices.setUp_attnR_iff (n : Notices) {body : Bytes} (h : ∀ i, i < 16 → at8 body (2 + i) ≤ 1) :
    (n.setUp body).attnR = true ↔
    ∃ i, i < 16 ∧ (n.setUp body).pending.getLsbD i = true ∧ (n.setUp body).enables.getLsbD i = true ∧
      at8 body (2 + i) = 0 := by
  rw [Notices.attnR_iff]
  refine exists_congr fun i => and_congr_right fun hi => ?_
  have hcode : ¬ at8 body (2 + i) = 1 ↔ at8 body (2 + i) = 0 := by have := h i hi; omega
  rw [Notices.setUp_urgents_getLsbD n body hi, decide_eq_false_iff_not, hcode]

/-! ### Every other command (R163) -/

/-- R163: the commands that may reach an enable or a priority: SET NOTICE ENABLES, by its row or by the code of a frame,
characters that may make up such a frame, and the resets, the one that follows the response to RESTART among them. -/
def mayReachNoticeSetup : Instr → Prop
  | .setNoticeEnables _ _ | .frameDiscarded _ | .powerOnReset | .lineReset | .responseComplete => True
  | .unknownRequest code _ _ | .busyAnswer code _ _ => code = 0x87#8
  | _ => False
theorem exec_noticeSetup {c : Instr} {s t : State} (hc : ¬ mayReachNoticeSetup c) (h : exec c s = .next t) :
    t.core.noticeSetup = s.core.noticeSetup := by
  cases c <;> cases h
  case setNoticeEnables | frameDiscarded | powerOnReset | lineReset | responseComplete => exact absurd trivial hc
  case unknownRequest code tag body => exact (serveByCode_keepsNoticeSetup hc body).goodFrame s code tag
  case busyAnswer code tag body => exact (serveByCode_keepsNoticeSetup hc body).goodFrame s code tag
  case enrolVehicle tag body => exact (serveEnrolVehicle_keepsNoticeSetup body).goodFrame s _ tag
  case amendVehicle tag body => exact (serveAmendVehicle_keepsNoticeSetup body).goodFrame s _ tag
  case retireVehicle tag body => exact (serveRetireVehicle_keepsNoticeSetup body).goodFrame s _ tag
  case readVehicle tag body => exact (serveReadVehicle_keepsNoticeSetup body).goodFrame s _ tag
  case holdVehicle tag body => exact (serveHoldVehicle_keepsNoticeSetup body).goodFrame s _ tag
  case setEnergy tag body => exact (serveSetEnergy_keepsNoticeSetup body).goodFrame s _ tag
  case readLane tag body => exact (serveReadLane_keepsNoticeSetup body).goodFrame s _ tag
  case closeLane tag body => exact (serveCloseLane_keepsNoticeSetup body).goodFrame s _ tag
  case openLane tag body => exact (serveOpenLane_keepsNoticeSetup body).goodFrame s _ tag
  case verifyLane tag body => exact (serveVerifyLane_keepsNoticeSetup body).goodFrame s _ tag
  case moveVehicle tag body => exact (serveMoveVehicle_keepsNoticeSetup body).goodFrame s _ tag
  case placeVehicle tag body => exact (servePlaceVehicle_keepsNoticeSetup body).goodFrame s _ tag
  case readStation tag body => exact (serveReadStation_keepsNoticeSetup body).goodFrame s _ tag
  case closeStation tag body => exact (serveCloseStation_keepsNoticeSetup body).goodFrame s _ tag
  case openStation tag body => exact (serveOpenStation_keepsNoticeSetup body).goodFrame s _ tag
  case setBudget tag body => exact (serveSetBudget_keepsNoticeSetup body).goodFrame s _ tag
  case readEnergy tag body => exact (serveReadEnergy_keepsNoticeSetup body).goodFrame s _ tag
  case readSession tag body => exact (serveReadSession_keepsNoticeSetup body).goodFrame s _ tag
  case stopSession tag body => exact (serveStopSession_keepsNoticeSetup body).goodFrame s _ tag
  case resumeSession tag body => exact (serveResumeSession_keepsNoticeSetup body).goodFrame s _ tag
  case addSlot tag body => exact (serveAddSlot_keepsNoticeSetup body).goodFrame s _ tag
  case amendSlot tag body => exact (serveAmendSlot_keepsNoticeSetup body).goodFrame s _ tag
  case cancelSlot tag body => exact (serveCancelSlot_keepsNoticeSetup body).goodFrame s _ tag
  case assign tag body => exact (serveAssign_keepsNoticeSetup body).goodFrame s _ tag
  case unassign tag body => exact (serveUnassign_keepsNoticeSetup body).goodFrame s _ tag
  case readSlot tag body => exact (serveReadSlot_keepsNoticeSetup body).goodFrame s _ tag
  case clearStaged tag body => exact (serveClearStaged_keepsNoticeSetup body).goodFrame s _ tag
  case markStaged tag body => exact (serveMarkStaged_keepsNoticeSetup body).goodFrame s _ tag
  case commitPlan tag body => exact (serveCommitPlan_keepsNoticeSetup body).goodFrame s _ tag
  case callNow tag body => exact (serveCallNow_keepsNoticeSetup body).goodFrame s _ tag
  case listDue tag body => exact (serveListDue_keepsNoticeSetup body).goodFrame s _ tag
  case readClock tag body => exact (serveReadClock_keepsNoticeSetup body).goodFrame s _ tag
  case setClock tag body => exact (serveSetClock_keepsNoticeSetup body).goodFrame s _ tag
  case readSetting tag body => exact (serveReadSetting_keepsNoticeSetup body).goodFrame s _ tag
  case writeSetting tag body => exact (serveWriteSetting_keepsNoticeSetup body).goodFrame s _ tag
  case storeSettings tag body => exact (serveStoreSettings_keepsNoticeSetup body).goodFrame s _ tag
  case readNotices tag body => exact (serveReadNotices_keepsNoticeSetup body).goodFrame s _ tag
  case clearNotices tag body => exact (serveClearNotices_keepsNoticeSetup body).goodFrame s _ tag
  case readFault tag body => exact (serveReadFault_keepsNoticeSetup body).goodFrame s _ tag
  case releaseFault tag body => exact (serveReleaseFault_keepsNoticeSetup body).goodFrame s _ tag
  case beginCensus tag body => exact (serveBeginCensus_keepsNoticeSetup body).goodFrame s _ tag
  case finishCensus tag body => exact (serveFinishCensus_keepsNoticeSetup body).goodFrame s _ tag
  case enterConfigure tag body => exact (serveEnterConfigure_keepsNoticeSetup body).goodFrame s _ tag
  case leaveConfigure tag body => exact (serveLeaveConfigure_keepsNoticeSetup body).goodFrame s _ tag
  case stopYard tag body => exact (serveStopYard_keepsNoticeSetup body).goodFrame s _ tag
  case restart tag body => exact (serveRestart_keepsNoticeSetup body).goodFrame s _ tag
  case identify tag body => exact (serveIdentify_keepsNoticeSetup body).goodFrame s _ tag
  case readNodes tag body => exact (serveReadNodes_keepsNoticeSetup body).goodFrame s _ tag
  case frameGapTimeout => exact s.frameGap_noticeSetup
  case startupComplete => split <;> rfl
  case gateReadIn source gate vtag => exact s.gateRead_noticeSetup source _ _ _
  case gateReadOut source gate vtag => exact s.gateRead_noticeSetup source _ _ _
  case gateAnswerLost => split <;> simp
  case reportReceived msg => exact s.busMessage_noticeSetup msg
  case messageRefused msg => exact s.busMessage_noticeSetup msg
  case bayArrived => exact State.bayReport_noticeSetup bayArrived_core 1 s
  case bayDone => exact State.bayReport_noticeSetup bayDone_core 2 s
  case bayClear => exact State.bayReport_noticeSetup bayClear_core 3 s
  case bayFault => exact State.bayReport_noticeSetup bayFault_core 4 s
  case bayRestored => exact State.bayReport_noticeSetup bayRestored_core 5 s
  case washEntered => exact State.washReport_noticeSetup washEntered_core 1 s
  case washDone => exact State.washReport_noticeSetup washDone_core 2 s
  case washClear => exact State.washReport_noticeSetup washClear_core 3 s
  case washFault => exact State.washReport_noticeSetup washFault_core 4 s
  case washRestored => exact State.washReport_noticeSetup washRestored_core 5 s
  case laneReport passFirst => exact State.takeReport_noticeSetup (takeLane_noticeSetup passFirst) _ s
  case pointReport => exact State.takeReport_noticeSetup takePoint_noticeSetup _ s
  case siteLimit => exact State.takeReport_noticeSetup takeLimit_noticeSetup _ s
  case sendStart => exact s.sendStart_noticeSetup
  case arbitrationLost dest => exact s.arbitrationLost_noticeSetup dest
  case sendAcknowledged => exact State.endSending_noticeSetup (fun m u => u.sent_noticeSetup m) s
  case sendNotAcknowledged destAcked =>
    exact State.endSending_noticeSetup (fun m u => u.notAcknowledged_noticeSetup m destAcked) s
  case stuckBusTimeout => exact s.stuckBus_noticeSetup
  case minuteEvent wear => exact s.minuteEvent_noticeSetup wear
  case rollover => exact s.rolloverEvent_noticeSetup
  case bayMovementExpiry bay => exact s.bayExpiry_noticeSetup bay
  case washMovementExpiry lane => exact s.washExpiry_noticeSetup lane
  case laneMovementExpiry vehicle => exact s.laneExpiry_noticeSetup vehicle
  case budgetStale => exact s.budgetExpiry_noticeSetup
  case callTimeout slot => exact s.callExpiry_noticeSetup slot
  case graceExpiry slot => exact s.graceExpiry_noticeSetup slot
  case storeComplete => exact s.storeComplete_noticeSetup
  case sparingCopyComplete => exact s.sparingComplete_noticeSetup
  case otherPartyTraffic => split <;> simp
  case busSeenFree => split <;> rfl

/-- Settles O51. SET NOTICE ENABLES by its two outcomes; every other command by the frame of `exec` over the enables and
priorities. -/
theorem noticeEnablesReplaced : Obligations.NoticeEnablesReplaced := by
  intro s tag body
  refine ⟨fun hready hlen hcode => ?malformed, fun hready hlen hcodes => ?taken, fun c t hc h => ?frame⟩
  case malformed =>
    exact congrArg Host.Outcome.next
      (State.goodFrame_same hready (serveSetNoticeEnables_malformed hlen hcode s) 0x87#8 tag)
  case taken =>
    have hstarted : s.startup = false := by simp_all [State.ready]
    refine ⟨{ s with notices := s.notices.setUp body, link := s.linkAnswering 0x87#8 .done tag [] }, ?_, rfl, rfl, rfl,
      fun i hi => s.notices.setUp_urgents_getLsbD body hi, ?_, ?_⟩
    · refine congrArg Host.Outcome.next ((State.goodFrame_ready hready _ 0x87#8 tag).trans ?_)
      rw [serveSetNoticeEnables_taken hlen hcodes]
      rfl
    · simpa [State.attnU, hstarted] using s.notices.setUp_attnU_iff body
    · simpa [State.attnR, hstarted] using s.notices.setUp_attnR_iff hcodes
  case frame =>
    have hother : ¬ mayReachNoticeSetup c := by
      intro hreach
      cases c
      case unknownRequest | busyAnswer => exact hc hreach
      case setNoticeEnables | frameDiscarded | powerOnReset | lineReset | responseComplete => exact hc
      all_goals exact hreach
    exact Prod.mk.inj (exec_noticeSetup hother h)

end Sys2Proof.Machine
end

section
/-! SUPPORT. The Fault Unit after each kind of reset: the capture, the summary and the count, and the C1 that a store which is
not valid reports (R165, R166, R169, R178). -/

namespace Sys2Proof.Machine

/-! ### What a report and a queued message leave in the Fault Unit (R143, R165, R166) -/

/-- R165, R166: what a report makes of the Fault Unit, as one equation. -/
theorem State.report_faults (s : State) (c : FaultCode) (subject : Nat) : (s.report c subject).faults =
    { s.faults with
      capture := if takesCapture s.faults.capture c then some { code := c, subject := subject, time := s.time }
        else s.faults.capture
      summary := s.faults.summary ||| (1#32 <<< c.num)
      count := if s.faults.capture.isNone then s.faults.count else min 255 (s.faults.count + 1) } := by
  unfold State.report
  dsimp only
  split <;> rfl
/-- R143: a message that finds a place, once those it replaces are gone and those held over have joined, loses none, and
so reports no Q2. -/
theorem State.enqueue_faults_of_not_full {s : State} {m : OutMsg} (h : (s.bus.removeReplaced m).refill.outFull = false) :
    (s.enqueue m).faults = s.faults := by
  simp [State.enqueue, h]
/-- R143: a message finds a place where nothing is queued, held over or in flight. -/
theorem Bus.not_full_removeReplaced_of_empty {b : Bus} (m : OutMsg) (hu : b.urgent = []) (hn : b.normal = [])
    (hh : b.heldOver = []) (hf : b.inFlight = none) : (b.removeReplaced m).refill.outFull = false := by
  simp [Bus.removeReplaced, Bus.refill, refillWith, Bus.outFull, Bus.outCount, hu, hn, hh, hf, Config.outboundMax]
@[simp] theorem State.pollAll_faults (s : State) : s.pollAll.faults = s.faults := by
  simp [State.pollAll]
/-- R177, R178: the YARD STATE that announces a reset goes into an empty queue. -/
theorem State.rebuildNodes_yardState_faults {s : State} (h : s.bus = .blank) :
    s.rebuildNodes.yardState.faults = s.faults :=
  State.enqueue_faults_of_not_full <| Bus.not_full_removeReplaced_of_empty _
    (congrArg Bus.urgent h) (congrArg Bus.normal h) (congrArg Bus.heldOver h) (congrArg Bus.inFlight h)

/-! ### The Fault Unit after a reset (R169, R178) -/

@[simp] theorem FaultUnit.reset_capture (f : FaultUnit) (powerOn : Bool) :
    (f.reset powerOn).capture = if powerOn then none else f.capture := rfl
@[simp] theorem FaultUnit.reset_summary (f : FaultUnit) (powerOn : Bool) :
    (f.reset powerOn).summary = if powerOn then 0#32 else f.summary := rfl
@[simp] theorem FaultUnit.reset_count (f : FaultUnit) (powerOn : Bool) :
    (f.reset powerOn).count = if powerOn then 0 else f.count := rfl
/-- R169: with a valid store a reset reports nothing: the Fault Unit is as the kind of reset leaves it. -/
theorem State.resetAll_faults_of_valid {s : State} (hv : s.store.valid = true) (powerOn : Bool) :
    (s.resetAll powerOn).faults = s.faults.reset powerOn := by
  simp only [State.resetAll, hv, if_true, State.pollAll_faults]
  exact State.rebuildNodes_yardState_faults rfl
/-- The capture of a C1 at a reset, where the clock is unset. -/
def resetC1 : Capture := { code := .c1, subject := 0, time := none }
/-- R165, R166, R169: a store that is not valid brings a C1, judged against the Fault Unit as the kind of reset leaves it. -/
theorem State.resetAll_faults_of_invalid {s : State} (hv : s.store.valid = false) (powerOn : Bool) :
    let f := s.faults.reset powerOn
    (s.resetAll powerOn).faults =
      { f with
        capture := if takesCapture f.capture .c1 then some resetC1 else f.capture
        summary := f.summary ||| (1#32 <<< 24)
        count := if f.capture.isNone then f.count else min 255 (f.count + 1) } := by
  simp only [State.resetAll, hv, Bool.false_eq_true, if_false]
  rw [State.rebuildNodes_yardState_faults (State.report_bus _ _ _), State.report_faults]
  rfl
@[simp] theorem takesCapture_none (c : FaultCode) : takesCapture none c = true := rfl
/-- R165: C1, of class 1, takes a capture that holds an ADVISORY, and no other held one. -/
theorem takesCapture_some_c1 (x : Capture) : takesCapture (some x) .c1 = decide (x.code.cls = 0) :=
  decide_eq_decide.mpr Nat.lt_one_iff
/-- R178: the two reset commands, and the end of the response to RESTART, reset every block; the power-on reset alone counts as
one. -/
theorem exec_reset {c : Instr} {s : State}
    (hc : c = .powerOnReset ∨ c = .lineReset ∨
      (c = .responseComplete ∧ s.link.restarting = true ∧ ∃ r b, s.link.service = .inService r b)) :
    exec c s = .next (s.resetAll (decide (c = .powerOnReset))) := by
  obtain rfl | rfl | ⟨rfl, hrestarting, r, b, hservice⟩ := hc
  · rfl
  · rfl
  · have hsent : s.responseSent = s.resetAll false := by simp [State.responseSent, hservice, hrestarting]
    exact congrArg Host.Outcome.next hsent

/-- Settles O3. Each of the three resets is `State.resetAll`; a valid store leaves the Fault Unit as the reset's kind does, and
one that is not valid adds the C1, judged on the capture it finds. -/
theorem resetKeepsOrEmptiesCapture : Obligations.ResetKeepsOrEmptiesCapture := by
  intro c s hc
  refine ⟨_, exec_reset hc, fun hpower hvalid => ?powerValid, fun hpower hinvalid => ?powerC1,
    fun hother hvalid => ?keptValid, fun hother hinvalid => ?keptC1⟩
  case powerValid => simp [State.resetAll_faults_of_valid hvalid, hpower]
  case powerC1 => simp [State.resetAll_faults_of_invalid hinvalid, hpower, resetC1]
  case keptValid => simp [State.resetAll_faults_of_valid hvalid, hother]
  case keptC1 =>
    rw [State.resetAll_faults_of_invalid hinvalid, decide_eq_false hother]
    refine ⟨rfl, fun x hx hcls => ?held, fun x hx hcls => ?advisory, fun hfree => ?free⟩
    case held => simp [hx, takesCapture_some_c1, Nat.ne_of_gt hcls]
    case advisory => simp [hx, takesCapture_some_c1, hcls, resetC1]
    case free => simp [hfree, resetC1]

end Sys2Proof.Machine
end
